-- ==== Sys2Proof/Word.lean ====
section
/-! DEFINITION. The word types of the CY7C600 and their plainest arithmetic. -/
namespace Sys2Proof

/-- One byte, the smallest addressable unit (20_memory.md R66). -/
abbrev Byte := BitVec 8

/-- One 32-bit word: an r register, an f register, an address, an instruction (10_state.md R21, 30_encoding.md R80). -/
abbrev Word := BitVec 32

/-- One 64-bit doubleword, or a smaller datum in its low bits (20_memory.md R66). -/
abbrev DWord := BitVec 64

/-- The number of an r, f or c register (30_encoding.md R84). -/
abbrev Reg := BitVec 5

/-- An address space identifier (20_memory.md R70). -/
abbrev Asi := BitVec 8

/-- The type of a trap, TBR.tt (60_exceptions.md R410). -/
abbrev TrapType := BitVec 8

end Sys2Proof
end

