-- ==== Sys2Proof/Config.lean ====
section
/-! DEFINITION. What an implementation fixes, and the free values: opaque constants that nothing in Lean can evaluate. -/
namespace Sys2Proof

/-- One pair (ADDR, INSTR) of a floating-point or coprocessor queue (10_state.md R55, R58). -/
structure QueueEntry where
  addr : Word
  instr : Word
deriving DecidableEq, Repr, Inhabited

/-- The three modes of the FPU (10_state.md R56) and of a coprocessor (45_coprocessor.md R340 (e)). -/
inductive UnitMode where
  | execution
  | pending
  | exception
deriving DecidableEq, Repr, Inhabited

/-- The second coprocessor (10_state.md R58, 45_coprocessor.md R340): registers, state register, queue, condition codes
and mode. -/
structure CpState where
  c : Vector Word 32
  csr : Word
  cq : List QueueEntry
  ccc : BitVec 2
  mode : UnitMode
deriving DecidableEq, Repr, Inhabited

/-- The registers and the CSR of a coprocessor, which its instructions work on. -/
structure CpRegs where
  c : Vector Word 32
  csr : Word
deriving DecidableEq, Repr, Inhabited

namespace Config

/-- An UNPREDICTABLE 32-bit value (00_scope.md R11). The first argument is `State.draws`, the second names the use;
log 8. -/
opaque freeWord : Nat → Nat → Word

/-- An UNPREDICTABLE choice, as a number to be reduced to the range it chooses from; log 8. -/
opaque freeNat : Nat → Nat → Nat

/-- The end of a CPop, the front entry of the queue: the registers and the CSR after it, and whether it met an exception. The first
argument is `State.draws`, the second tells the ends of one step apart (45_coprocessor.md R343, R344, log 19). -/
opaque cpOp : (draws index : Nat) → QueueEntry → CpRegs → CpRegs × Bool

/-- What a coprocessor in exception mode does with a CPop: the registers and the CSR after it, and whether it joins the queue
(45_coprocessor.md R344, "not stated", log 19). -/
opaque cpOpInException : Nat → QueueEntry → CpRegs → CpRegs × Bool

/-- Whether a CPop is a compare, which sets the condition codes (45_coprocessor.md R345, log 19). -/
opaque cpCompares : (instr : Word) → Bool

/-- How many CPops end while CHOLD makes an instruction wait (45_coprocessor.md R341, "implementation dependent", log 19). -/
opaque cpHolds : Nat → CpState → Nat

/-- Whether the coprocessor forces an odd register number of LDDC even (40_load_store.md R161, log 19). -/
opaque cpForcesEven : Bool

/-- The writable bits of CSR (40_load_store.md R162, log 19). -/
opaque cpCsrMask : Word

/-- The places of the two bits of CCC in CSR, CCC<1> and CCC<0> (45_coprocessor.md R340 (d), "not given", log 19). -/
opaque cpCccPlace : Fin 32 × Fin 32

/-- The registers and the CSR after a coprocessor load took a trap (40_load_store.md R159, "depends on the particular
implementation", log 19). -/
opaque cpLoadTrap : Nat → CpRegs → CpRegs

/-- Whether the queue advances when STDCQ has stored its front entry (40_load_store.md R166, log 19). -/
opaque cpQueueAdvances : Nat → CpState → Bool

/-- The place of each bit of an MPTAG entry in the word that the diagnostic ASI 0x30 reads and writes: bits 23 to 0 are PA[35:12],
bits 24 to 26 V, SH and M, the rest reserved. A parameter (91_not_in_source.md N58, log 30). -/
opaque mptagLayout : Equiv.Perm (Fin 32)

/-- The number of implemented windows, NWINDOWS (10_state.md R21; 93_implementation_defined.md part 3). -/
def nwindows : Nat := 8

/-- `FQ_DEPTH`, the most entries the floating-point queue holds (10_state.md R55, 92_eei_decisions.md D5, log 13). -/
def fqDepth : Nat := 3

end Config
end Sys2Proof
end

