-- ==== Sys2Proof/Machine/State.lean ====
section
/-! DEFINITION. The state of the machine, as plain data, and its value after reset. -/
namespace Sys2Proof.Machine

/-! ## Integer unit -/

/-- The three states of the processor (10_state.md R32). -/
inductive Mode where
  | execute
  | reset
  | error
deriving DecidableEq, Repr, Inhabited

/-- The writable fields of the PSR (10_state.md R33); `impl` and `ver` are constants of the part (R35), bits 19:14 are 0
(R37), and the CWP field holds 0 to 7 only (R44). -/
structure Psr where
  n : Bool
  z : Bool
  v : Bool
  c : Bool
  ec : Bool
  ef : Bool
  pil : BitVec 4
  s : Bool
  ps : Bool
  et : Bool
  cwp : BitVec 3
deriving DecidableEq, Repr, Inhabited

/-- The TBR: its two fields; bits 3:0 are 0 (10_state.md R47). -/
structure Tbr where
  tba : BitVec 20
  tt : TrapType
deriving DecidableEq, Repr, Inhabited

/-- The pending delayed writes of a register (10_state.md R49, 70_reset_and_hazards.md R511): for each write of the window
the values before and after it, and the number of step ends that remain. `left = 0` exactly when `writes` is empty. -/
structure Delayed (α : Type) where
  writes : List (α × α)
  left : Nat
deriving DecidableEq, Repr, Inhabited

/-- Where an instruction word stands: at a key of memory, or at a place of the cache data, VA[15:0]
(22_cmu_registers_faults_reset.md R675). -/
inductive CodePlace where
  | memory (key : Nat)
  | cache (key : Nat)
deriving DecidableEq, Repr, Inhabited

/-- A word a store changed within the last four instructions (70_reset_and_hazards.md R516): the place of its first byte,
its old contents, and the number of step ends that remain. -/
structure CodeEdit where
  place : CodePlace
  old : Word
  left : Nat
deriving DecidableEq, Repr, Inhabited

/-! ## Floating-point unit -/

/-- The five exception bits of a TEM, AEXC or CEXC field (10_state.md R51). -/
structure FpExc where
  nv : Bool
  of : Bool
  uf : Bool
  dz : Bool
  nx : Bool
deriving DecidableEq, Repr, Inhabited

/-- The FSR: the fields a program or the FPU writes (10_state.md R51); version is 011, QNE follows the queue, bits 21, 20
and 12 are 0. -/
structure Fsr where
  rd : BitVec 2
  rp : BitVec 2
  tem : FpExc
  ns : Bool
  ftt : BitVec 3
  fcc : BitVec 2
  aexc : FpExc
  cexc : FpExc
deriving DecidableEq, Repr, Inhabited

/-! ## Cache controller and MMU -/

/-- One TLB entry (21_mmu_cache.md R603). -/
structure TlbEntry where
  va : BitVec 20
  cxn : BitVec 12
  ppn : BitVec 24
  c : Bool
  m : Bool
  acc : BitVec 3
  st : BitVec 2
  v : Bool
deriving DecidableEq, Repr, Inhabited

/-- One cache tag entry (21_mmu_cache.md R601 (f), R621): `m` on the CY7C604, `sh` on the CY7C605 (R628). -/
structure Tag where
  va : BitVec 16
  cxn : BitVec 12
  v : Bool
  m : Bool
  sh : Bool
  s : Bool
deriving DecidableEq, Repr, Inhabited

/-- One entry of the CY7C605's physical tags (21_mmu_cache.md R628). -/
structure MpTag where
  pa : BitVec 24
  v : Bool
  sh : Bool
  m : Bool
deriving DecidableEq, Repr, Inhabited

/-- A valid write buffer (21_mmu_cache.md R601 (h), R625): the physical address, in a bank (log 42), and the bytes that go
there: at most two words of a store, or one line of 32 bytes in copy-back mode. -/
structure WriteBuffer where
  bank : Nat
  pa : Nat
  bytes : List Byte
deriving DecidableEq, Repr, Inhabited

/-- The transactions of other bus masters that a CY7C605 snoops (21_mmu_cache.md R628): coherent read, coherent read and
invalidate, coherent invalidate, and coherent write and invalidate, which carries the line it writes. -/
inductive SnoopKind where
  | cr
  | cri
  | ci
  | cwi (line : List Byte)
deriving DecidableEq, Repr, Inhabited

/-- A snooped transaction: its kind, the physical address of its line, PA[35:5], and the superset bits VA[15:12] that come with
it (21_mmu_cache.md R628, 22_cmu_registers_faults_reset.md R691). -/
structure Snoop where
  kind : SnoopKind
  line : BitVec 31
  superset : BitVec 4
deriving DecidableEq, Repr, Inhabited

/-- The CMU (22_cmu_registers_faults_reset.md R640 to R654, 21_mmu_cache.md R601). Each register is held as a word
with its reserved bits 0; SCR.IMPL and SCR.VER are constants of the part, shown by a read (R641, R642); `rr` is WDR, SIR,
SER. Tags and cache data are listed where they differ from their reset value; `wbuf` lists the valid write buffers, the oldest
first, `rbuf` is the read buffer where it is valid, `boot` the latched boot-mode bit (R654). -/
structure Cmu where
  scr : Word
  ctpr : Word
  cxr : Word
  rr : BitVec 3
  rpr : Word
  iptp : Word
  dptp : Word
  itr : Word
  sfsr : Word
  sfar : Word
  irc : BitVec 6
  rc : BitVec 6
  afsr : Word
  afar : Word
  tlb : Vector TlbEntry 64
  tags : List (Nat × Tag)
  mptags : List (Nat × MpTag)
  data : List Host.Cell
  wbuf : List WriteBuffer
  rbuf : Option (List Byte)
  boot : Bool
  irst : Bool
deriving DecidableEq, Repr

/-! ## Platform: constants of a configuration and input pins (00_scope.md R7, log 1) -/

/-- The integer unit's part number. -/
inductive IuKind where
  | cy7c601
  | cy7c611
deriving DecidableEq, Repr, Inhabited

/-- `CMU_KIND`. -/
inductive CmuKind where
  | none
  | cy7c604
  | cy7c605
deriving DecidableEq, Repr, Inhabited

/-- A region at which the platform answers with a memory exception: `MemFault` (20_memory.md R74, log 26). -/
structure MemFault where
  asi : Asi
  lo : Nat
  hi : Nat
  onRead : Bool
  onWrite : Bool
  onFetch : Bool
deriving DecidableEq, Repr, Inhabited

/-- The three Mbus error answers (22_cmu_registers_faults_reset.md R650). -/
inductive BusError where
  | uncorrectable
  | timeout
  | bus
deriving DecidableEq, Repr, Inhabited

/-- A region of physical memory at which the Mbus answers with an error (log 26). -/
structure BusFault where
  lo : Nat
  hi : Nat
  kind : BusError
  onRead : Bool
  onWrite : Bool
deriving DecidableEq, Repr, Inhabited

/-- The configuration and the pins. No step changes them. -/
structure Platform where
  /-- CY7C601 or CY7C611 (00_scope.md R7). -/
  iu : IuKind
  /-- `CMU_KIND`. -/
  cmu : CmuKind
  /-- `FPU_PRESENT`, the FP pin (10_state.md R62). -/
  fpuPresent : Bool
  /-- `CP_PRESENT`, the CP pin (10_state.md R62). -/
  cpPresent : Bool
  /-- The IFT pin (43_state_register_misc.md R270). -/
  iftPin : Bool
  /-- `CTI_BASE_OFFSET` (42_control_transfer.md R221, log 5). -/
  ctiBase : Word
  /-- `QNAN_S` (44_floating_point.md, log 17). -/
  qnanS : Word
  /-- `QNAN_D` (44_floating_point.md, log 17). -/
  qnanD : DWord
  /-- Whether reading the AFAR clears AFSR.AFO (22_cmu_registers_faults_reset.md R653). -/
  afarReadClearsAfo : Bool
  /-- Without a CMU: which address spaces other than 0x08 to 0x0B answer, and from which bank (log 24). -/
  asiSpace : List (Asi × Nat)
  /-- Whether accesses with MBL asserted reach a memory of their own (log 42). -/
  mblSeparate : Bool
  memFault : List MemFault
  busFault : List BusFault
  /-- IRL<3:0> (10_state.md R61). -/
  irl : BitVec 4
  /-- RESET asserted (70_reset_and_hazards.md R500). -/
  resetPin : Bool
  /-- POR asserted (22_cmu_registers_faults_reset.md R681). -/
  porPin : Bool
  /-- The answer of the MSH pin to this CMU's reads (21_mmu_cache.md R628, log 43). -/
  msh : Bool
  /-- CSEL low, which POR latches: this is the boot-mode CMU (22_cmu_registers_faults_reset.md R654, log 41). -/
  csel : Bool
deriving DecidableEq, Repr

/-! ## The machine -/

/-- Everything the spec gives the machine (10_state.md R20); `draws` is the model's own counter, to which the free values are
applied (log 8). -/
structure State where
  regs : Vector Word 136
  pc : Word
  npc : Word
  mode : Mode
  psr : Psr
  wim : BitVec 8
  tbr : Tbr
  y : Word
  psrWin : Delayed Psr
  wimWin : Delayed (BitVec 8)
  tbaWin : Delayed (BitVec 20)
  yWin : Delayed Word
  /-- The previous instruction was a conditional branch whose delay instruction is at `pc` (42_control_transfer.md R242). -/
  condDelay : Bool
  codeHist : List CodeEdit
  f : Vector Word 32
  fsr : Fsr
  fq : List QueueEntry
  fpMode : UnitMode
  cp : CpState
  cmu : Cmu
  mem : List Host.Cell
  /-- The INTACK output: the step before took an interrupt (10_state.md R62, log 11). -/
  intack : Bool
  /-- Transactions of other bus masters yet to be snooped, the oldest first: an input (21_mmu_cache.md R628, log 43). -/
  snoops : List Snoop
  plat : Platform
  draws : Nat
deriving DecidableEq, Repr

/-- Why a step stops. -/
inductive Fault where
  /-- Raised by `step` alone, in error mode without a CMU: the processor has halted and only RESET leaves error mode
  (10_state.md R32, 60_exceptions.md R421, log 12). Safe: the machine stops where the hardware does. -/
  | errorMode
deriving DecidableEq, Repr

/-- Why an instruction has no meaning. -/
inductive Refusal where
  /-- An instruction of the table this model gives no meaning; no arm of `exec` answers it. Safe. -/
  | notModelled (mnemonic : String)
deriving DecidableEq, Repr

/-- No delayed write pending. -/
def Delayed.none {α : Type} : Delayed α := { writes := [], left := 0 }

/-- No exception bit set. -/
def FpExc.none : FpExc := { nv := false, of := false, uf := false, dz := false, nx := false }

/-- The FSR after reset: 0x00060000 (10_state.md R57). -/
def Fsr.reset : Fsr :=
  { rd := 0, rp := 0, tem := .none, ns := false, ftt := 0, fcc := 0, aexc := .none, cexc := .none }

/-- The tag an unlisted cache line has: invalid (22_cmu_registers_faults_reset.md R681), the rest 0 (log 33). -/
def Tag.reset : Tag := { va := 0, cxn := 0, v := false, m := false, sh := false, s := false }

/-- The MPTAG an unlisted line has: invalid (log 33). -/
def MpTag.reset : MpTag := { pa := 0, v := false, sh := false, m := false }

/-- A TLB entry after reset: invalid (21_mmu_cache.md R603), the rest 0 (log 33). -/
def TlbEntry.reset : TlbEntry :=
  { va := 0, cxn := 0, ppn := 0, c := false, m := false, acc := 0, st := 0, v := false }

/-- What a byte of memory that nothing has written reads as (log 3, DESIGN CHOICE). -/
def unlistedByte : Byte := 0x00#8

/-- The second coprocessor after reset: the spec gives no values (45_coprocessor.md R340; log 20, DESIGN CHOICE). -/
def cpReset : CpState := { c := Vector.replicate 32 0, csr := 0, cq := [], ccc := 0, mode := .execution }

/-- The CMU after power-on reset (22_cmu_registers_faults_reset.md R680, R681): SCR.BM = 1; what the spec leaves open
is 0 (log 33). CSEL was low: a single CMU has it tied to ground (R654). -/
def Cmu.reset : Cmu :=
  { scr := 0x00004000#32, ctpr := 0, cxr := 0, rr := 0, rpr := 0, iptp := 0, dptp := 0, itr := 0, sfsr := 0, sfar := 0,
    irc := 0, rc := 0, afsr := 0, afar := 0, tlb := Vector.replicate 64 .reset, tags := [], mptags := [], data := [],
    wbuf := [], rbuf := none, boot := true, irst := false }

/-- The default configuration (92_eei_decisions.md D30, 93_implementation_defined.md part 3; log 1). -/
def Platform.reset : Platform :=
  { iu := .cy7c601, cmu := .none, fpuPresent := true, cpPresent := false, iftPin := true, ctiBase := 4,
    qnanS := 0x7FFFFFFF#32, qnanD := 0x7FFFFFFFFFFFFFFF#64, afarReadClearsAfo := false, asiSpace := [],
    mblSeparate := false, memFault := [], busFault := [], irl := 0, resetPin := false, porPin := false, msh := false,
    csel := true }

/-- The machine right after reset (10_state.md R64, 70_reset_and_hazards.md R500): PC = 0, nPC = 4, ET = 0, S = 1, the FSR
and the FPU as R57 says; registers the spec gives no reset value are 0 (log 2, DESIGN CHOICE). -/
def State.reset : State :=
  { regs := Vector.replicate 136 0
    pc := 0
    npc := 4
    mode := .execute
    psr := { n := false, z := false, v := false, c := false, ec := false, ef := false, pil := 0, s := true, ps := false,
             et := false, cwp := 0 }
    wim := 0
    tbr := { tba := 0, tt := 0 }
    y := 0
    psrWin := .none
    wimWin := .none
    tbaWin := .none
    yWin := .none
    condDelay := false
    codeHist := []
    f := Vector.replicate 32 0
    fsr := .reset
    fq := []
    fpMode := .execution
    cp := cpReset
    cmu := .reset
    mem := []
    intack := false
    snoops := []
    plat := .reset
    draws := 0 }

end Sys2Proof.Machine
end

