-- ==== Sys2Proof/Machine/Memory.lean ====
section
/-! DEFINITION. Sparse data by key in one canonical form, bytes and big-endian data (20_memory.md R66). -/
namespace Sys2Proof.Machine

/-! ## Sparse data: a list of (key, value), keys strictly rising, no value equal to the default `d` -/

/-- The value at key `k`: the default where none is listed. -/
def sparseGet {α : Type} (d : α) : List (Nat × α) → Nat → α
  | [], _ => d
  | (j, v) :: rest, k => if j = k then v else sparseGet d rest k

/-- The list without key `k`. -/
def sparseErase {α : Type} : List (Nat × α) → Nat → List (Nat × α)
  | [], _ => []
  | (j, v) :: rest, k => if j = k then sparseErase rest k else (j, v) :: sparseErase rest k

/-- The list with `(k, v)` put before the first larger key. -/
def sparseInsert {α : Type} : List (Nat × α) → Nat → α → List (Nat × α)
  | [], k, v => [(k, v)]
  | (j, w) :: rest, k, v => if j < k then (j, w) :: sparseInsert rest k v else (k, v) :: (j, w) :: rest

/-- The list after key `k` is given the value `v`; the default value is not listed. -/
def sparseSet {α : Type} [DecidableEq α] (d : α) (l : List (Nat × α)) (k : Nat) (v : α) : List (Nat × α) :=
  if v = d then sparseErase l k else sparseInsert (sparseErase l k) k v

/-- The canonical form: keys strictly rising, no default value listed. -/
def sparseWf {α : Type} [DecidableEq α] (d : α) (l : List (Nat × α)) : Bool :=
  decide (l.Pairwise fun a b => a.1 < b.1) && l.all fun e => decide (e.2 ≠ d)

/-- The canonical form of memory (log 3). -/
def Memory.wf (m : List Host.Cell) : Bool := sparseWf unlistedByte m

/-! ## Bytes -/

/-- The byte of a memory (main memory or cache data) at a key; an unlisted byte reads `unlistedByte`. -/
def byteAt (m : List Host.Cell) (k : Nat) : Byte := sparseGet unlistedByte m k

/-- The memory after the bytes of a list are stored from key `k` upwards. -/
def setBytes (m : List Host.Cell) (k : Nat) : List Byte → List Host.Cell
  | [] => m
  | b :: rest => setBytes (sparseSet unlistedByte m k b) (k + 1) rest

/-- The sizes of an access (20_memory.md R66). -/
inductive Size where
  | byte
  | half
  | word
  | double
deriving DecidableEq, Repr, Inhabited

/-- The number of bytes of an access. -/
def Size.bytes : Size → Nat
  | .byte => 1
  | .half => 2
  | .word => 4
  | .double => 8

/-- The datum of a size stored from key `k` upwards, the most significant byte first, in the low bits of a doubleword
(20_memory.md R66). -/
def datumAt (m : List Host.Cell) (k : Nat) : Size → DWord
  | .byte => (byteAt m k).setWidth 64
  | .half => (byteAt m k ++ byteAt m (k + 1)).setWidth 64
  | .word => (byteAt m k ++ byteAt m (k + 1) ++ byteAt m (k + 2) ++ byteAt m (k + 3)).setWidth 64
  | .double => byteAt m k ++ byteAt m (k + 1) ++ byteAt m (k + 2) ++ byteAt m (k + 3) ++ byteAt m (k + 4) ++
      byteAt m (k + 5) ++ byteAt m (k + 6) ++ byteAt m (k + 7)

/-- The bytes of a datum, the most significant first (20_memory.md R66). -/
def datumBytes (v : DWord) : Size → List Byte
  | .byte => [v.extractLsb' 0 8]
  | .half => [v.extractLsb' 8 8, v.extractLsb' 0 8]
  | .word => [v.extractLsb' 24 8, v.extractLsb' 16 8, v.extractLsb' 8 8, v.extractLsb' 0 8]
  | .double => [v.extractLsb' 56 8, v.extractLsb' 48 8, v.extractLsb' 40 8, v.extractLsb' 32 8,
      v.extractLsb' 24 8, v.extractLsb' 16 8, v.extractLsb' 8 8, v.extractLsb' 0 8]

/-- The memory after a datum of a size is stored at key `k`. -/
def setDatum (m : List Host.Cell) (k : Nat) (size : Size) (v : DWord) : List Host.Cell :=
  setBytes m k (datumBytes v size)

/-! ## Banks: the key of a physical address -/

/-- The key of the physical address `pa` (36 bits) of a bank; bank 0 is the main memory (20_memory.md R70). -/
def memKey (bank pa : Nat) : Nat := bank * 2 ^ 36 + pa

end Sys2Proof.Machine
end

