-- ==== Sys2Proof/Machine/Ops.lean ====
section
/-! DEFINITION. The named operations of the integer unit: the uses of delayed-write registers, the r registers, PC and nPC,
the state registers, taking a trap and returning from one. -/
namespace Sys2Proof.Machine

/-! ## Free values and delayed writes (00_scope.md R11, 70_reset_and_hazards.md R511) -/

/-- The uses at which a free value or a free choice is drawn; each use has its own number, so that the choices made for one
value of `State.draws` are independent of each other. -/
inductive Use where
  | rs1 | rs2 | rd | rdLow | link | privilege | asi | fetch | trapEnable | errorMode | interruptEt | interruptPil
  | interruptBoundary | cwp | wim | icc | carry | efBit | ecBit | ps | readPsr | readWim | readTba | readY | mulY | mulIcc
  | vectorTba | couplePc | coupleNpc | codeWord | noAnswer | noAnswerLow | queueAddr | queueInstr
  | cmuReserved | cmuReplace | cmuMatch | cmuLevel | cmuAccess | cmuBadWrite
  | cmuFlush | cmuProbe | cmuCounter | cmuFlushTag | cmuWdr | cmuReadWaits | cmuWalkWaits | agent
deriving DecidableEq, Repr

/-- A free 32-bit value for one use in this step. -/
def drawWord (s : State) (u : Use) : Word := Config.freeWord s.draws u.ctorIdx

/-- A free number for one use in this step. -/
def drawNat (s : State) (u : Use) : Nat := Config.freeNat s.draws u.ctorIdx

/-- A free bit for one use in this step. -/
def drawBool (s : State) (u : Use) : Bool := decide (drawNat s u % 2 = 1)

/-- From here on the free values are drawn afresh (00_scope.md R11: "chosen afresh at each use"): put between two uses of one
kind that fall into one step. -/
def refresh (s : State) : State := { s with draws := s.draws + 1 }

/-- The values a register had before and after the writes of the window. -/
def Delayed.values {α : Type} (w : Delayed α) : List α := w.writes.flatMap fun p => [p.1, p.2]

/-- The value of a field at one use: the register's own, unless a write of the window changed the field; then any of the values
of the window or its own, by the free number `n` (R511, 43_state_register_misc.md R269). -/
def Delayed.use {α β : Type} [DecidableEq β] (w : Delayed α) (cur : α) (field : α → β) (n : Nat) : β :=
  if w.writes.all fun p => decide (field p.1 = field p.2) then field cur
  else field ((cur :: w.values).getD (n % (w.values.length + 1)) cur)

/-- The record after a delayed write replaced `old` by `new`: a second write inside the window keeps the earlier ones and
restarts the count (R511). The end of the writing step takes the count from 4 to 3. -/
def Delayed.write {α : Type} (w : Delayed α) (old new : α) : Delayed α :=
  { writes := w.writes ++ [(old, new)], left := 4 }

/-- The record at the end of an executed instruction (R511). -/
def Delayed.tick {α : Type} (w : Delayed α) : Delayed α :=
  if w.left ≤ 1 then .none else { w with left := w.left - 1 }

/-- A PSR field at one use (R511). -/
def usePsr {β : Type} [DecidableEq β] (s : State) (field : Psr → β) (u : Use) : β :=
  s.psrWin.use s.psr field (drawNat s u)

/-- The WIM at one use (R511). -/
def useWim (s : State) (u : Use) : BitVec 8 := s.wimWin.use s.wim id (drawNat s u)

/-- TBR.TBA at one use (R511). -/
def useTba (s : State) (u : Use) : BitVec 20 := s.tbaWin.use s.tbr.tba id (drawNat s u)

/-- Y at one use (R511). -/
def useY (s : State) (u : Use) : Word := s.yWin.use s.y id (drawNat s u)

/-! ## The r registers (10_state.md R21, R22) -/

/-- The place of `r[n]` in the window `cwp` among the 136 registers: the globals, then `W[(16 × cwp + n − 8) mod 128]`. -/
def regIndex (cwp : BitVec 3) (n : Reg) : Nat :=
  if n.toNat < 8 then n.toNat else 8 + (16 * cwp.toNat + (n.toNat - 8)) % 128

theorem regIndex_lt (cwp : BitVec 3) (n : Reg) : regIndex cwp n < 136 := by
  unfold regIndex; split <;> omega

/-- `r[n]` of the window `cwp`; `r[0]` is 0 (R22). -/
def regIn (s : State) (cwp : BitVec 3) (n : Reg) : Word :=
  if n = 0 then 0 else s.regs[regIndex cwp n]'(regIndex_lt cwp n)

/-- Write `r[n]` of the window `cwp`; `r[0]` discards the value (R22). -/
def setRegIn (s : State) (cwp : BitVec 3) (n : Reg) (v : Word) : State :=
  if n = 0 then s else { s with regs := s.regs.set (regIndex cwp n) v (regIndex_lt cwp n) }

/-- The window an instruction uses for one register operand (R511: PSR.CWP). -/
def useCwp (s : State) (u : Use) : BitVec 3 := usePsr s Psr.cwp u

/-- Read `r[n]` of the current window. -/
def readReg (s : State) (u : Use) (n : Reg) : Word :=
  if n.toNat < 8 then regIn s 0 n else regIn s (useCwp s u) n

/-- Write `r[n]` of the current window. -/
def writeReg (s : State) (u : Use) (n : Reg) (v : Word) : State :=
  if n.toNat < 8 then setRegIn s 0 n v else setRegIn s (useCwp s u) n v

/-- The even register of a pair (40_load_store.md R103, 10_state.md R50). -/
def evenReg (n : Reg) : Reg := n &&& 0b11110#5

/-- The odd register of a pair. -/
def oddReg (n : Reg) : Reg := n ||| 0b00001#5

/-! ## The state registers as words -/

/-- PSR.ver (10_state.md R35). -/
def psrVer (s : State) : BitVec 4 :=
  match s.plat.iu with
  | .cy7c601 => 1
  | .cy7c611 => 3

/-- The word RDPSR reads (10_state.md R33): impl is 1, bits 19:14 are 0 (R37, log 6). -/
def psrWord (s : State) (p : Psr) : Word :=
  1#4 ++ psrVer s ++ BitVec.ofBool p.n ++ BitVec.ofBool p.z ++ BitVec.ofBool p.v ++ BitVec.ofBool p.c ++ 0#6 ++
    BitVec.ofBool p.ec ++ BitVec.ofBool p.ef ++ p.pil ++ BitVec.ofBool p.s ++ BitVec.ofBool p.ps ++ BitVec.ofBool p.et ++
    0#2 ++ p.cwp

/-- The PSR as RDPSR sees it: each field on its own, while a delayed write that changed it is pending (R511). The digits of one
free number, to the base of the number of values, are the choices. DESIGN CHOICE: here N, Z, V and C are four fields; R269 and
R511 do not say whether icc counts as one (log 7). -/
def readPsr (s : State) : Psr :=
  let k := s.psrWin.values.length + 1
  let pick {β : Type} [DecidableEq β] (field : Psr → β) (i : Nat) : β :=
    s.psrWin.use s.psr field (drawNat s .readPsr / k ^ i)
  { n := pick Psr.n 0, z := pick Psr.z 1, v := pick Psr.v 2, c := pick Psr.c 3, ec := pick Psr.ec 4, ef := pick Psr.ef 5,
    pil := pick Psr.pil 6, s := pick Psr.s 7, ps := pick Psr.ps 8, et := pick Psr.et 9, cwp := pick Psr.cwp 10 }

/-- The PSR fields a WRPSR of the word `w` leaves; EC stays 0 on the CY7C611 (10_state.md R34, R38). -/
def psrOfWord (s : State) (w : Word) : Psr :=
  { n := w.getLsbD 23, z := w.getLsbD 22, v := w.getLsbD 21, c := w.getLsbD 20,
    ec := w.getLsbD 13 && s.plat.iu = .cy7c601, ef := w.getLsbD 12, pil := w.extractLsb' 8 4, s := w.getLsbD 7,
    ps := w.getLsbD 6, et := w.getLsbD 5, cwp := w.extractLsb' 0 3 }

/-- The word RDTBR reads (10_state.md R47). -/
def tbrWord (tba : BitVec 20) (tt : TrapType) : Word := tba ++ tt ++ 0#4

/-- Whether an FPU is there and enabled (60_exceptions.md R404). -/
def fpEnabled (s : State) : Bool := usePsr s Psr.ef .efBit && s.plat.fpuPresent

/-- Whether a coprocessor is there and enabled; the CY7C611 has no coprocessor interface (60_exceptions.md R405). -/
def cpEnabled (s : State) : Bool := usePsr s Psr.ec .ecBit && s.plat.cpPresent && s.plat.iu = .cy7c601

/-- The S bit a privileged instruction tests (60_exceptions.md R403). -/
def supervisor (s : State) : Bool := usePsr s Psr.s .privilege

/-! ## PC and nPC -/

/-- The default advance (10_state.md R30). -/
def advance (s : State) : State := { s with pc := s.npc, npc := s.npc + 4, condDelay := false }

/-- A word-aligned free address (42_control_transfer.md R242). -/
def drawAddress (s : State) (u : Use) : Word := drawWord s u &&& 0xFFFFFFFC#32

/-- A delayed control transfer leaves PC and nPC: the given values, or, in the delay slot of a conditional branch, free
word-aligned addresses (42_control_transfer.md R242, log 9). -/
def transfer (s : State) (pc npc : Word) : State :=
  if s.condDelay then { s with pc := drawAddress s .couplePc, npc := drawAddress s .coupleNpc, condDelay := false }
  else { s with pc := pc, npc := npc, condDelay := false }

/-- The target of a PC-relative transfer by `disp` words (42_control_transfer.md R221, log 5). -/
def relativeTarget (s : State) (disp : Word) : Word := s.pc + s.plat.ctiBase + 4 * disp

/-! ## Traps (60_exceptions.md R420, R421) -/

/-- The trap actions: ET ← 0, PS ← S, S ← 1, CWP ← CWP − 1, r[17] and r[18] of the new window ← PC and nPC, tt ← t, PC at the
vector. The handler sees no delayed write pending; only the vector may use an old TBA (R511). -/
def enterTrap (s : State) (t : TrapType) : State :=
  let cwp := s.psr.cwp - 1
  let vector := tbrWord (useTba s .vectorTba) t
  let s1 := setRegIn (setRegIn s cwp 17 s.pc) cwp 18 s.npc
  { s1 with
    psr := { s.psr with et := false, ps := s.psr.s, s := true, cwp := cwp }
    tbr := { s.tbr with tt := t }
    pc := vector
    npc := vector + 4
    psrWin := .none
    wimWin := .none
    tbaWin := .none
    yWin := .none
    condDelay := false }

/-- Error mode: the trap actions, then the processor halts (R421). -/
def enterErrorMode (s : State) (t : TrapType) : State := { enterTrap s t with mode := .error }

/-- `raise T`: the trap with ET = 1, error mode with ET = 0 (60_exceptions.md, before R400). -/
def raise (s : State) (t : TrapType) : State :=
  if usePsr s Psr.et .trapEnable then enterTrap s t else enterErrorMode s t

/-- The trap types (60_exceptions.md R410). -/
def ttInstructionAccess : TrapType := 1
def ttIllegal : TrapType := 2
def ttPrivileged : TrapType := 3
def ttFpDisabled : TrapType := 4
def ttWindowOverflow : TrapType := 5
def ttWindowUnderflow : TrapType := 6
def ttNotAligned : TrapType := 7
def ttFpException : TrapType := 8
def ttDataAccess : TrapType := 9
def ttTagOverflow : TrapType := 10
def ttCpDisabled : TrapType := 36
def ttCpException : TrapType := 40

/-- The effect of a return from trap whose checks have passed: ET ← 1, S ← PS, CWP ← `cwp`, a delayed transfer to `target`
(42_control_transfer.md R228). In the delay slot of a conditional branch S is unchanged (R242, log 9). -/
def returnFromTrap (s : State) (cwp : BitVec 3) (target : Word) : State :=
  let sBit := if s.condDelay then s.psr.s else usePsr s Psr.ps .ps
  transfer { s with psr := { s.psr with et := true, s := sBit, cwp := cwp } } s.npc target

/-- The IU at the end of reset: ET ← 0, S ← 1, PC ← 0, nPC ← 4, no delayed write pending; the FPU as 10_state.md R57 says.
Everything else keeps its value (70_reset_and_hazards.md R500, R505). DESIGN CHOICE: the record of changed code is emptied, so
that a fetch after a reset sees no old word; R516 does not say (log 10). -/
def resetIu (s : State) : State :=
  { s with
    mode := .execute
    psr := { s.psr with et := false, s := true }
    pc := 0
    npc := 4
    psrWin := .none
    wimWin := .none
    tbaWin := .none
    yWin := .none
    condDelay := false
    codeHist := []
    fsr := .reset
    fq := []
    fpMode := .execution }

/-- The end of every step: the free values are drawn afresh (log 8), INTACK falls (10_state.md R62). DESIGN CHOICE: INTACK
stands for one step, from the one that takes the interrupt to the end of the next; R62 and R433 do not say when the latched output
falls (log 11). -/
def endTurn (s : State) : State := { s with draws := s.draws + 1, intack := false }

/-- The end of a step that executed an instruction, which also counts in the records of delayed writes and of changed code
(R511, R516). DESIGN CHOICE: an instruction that takes a trap counts among the four instructions of R516, which does not say
(log 10). DESIGN CHOICE: an annulled delay instruction has no step and does not count among the four instructions of R516;
the spec settles that for the delayed writes alone (92_eei_decisions.md D25, log 10). -/
def endStep (s : State) : State :=
  { endTurn s with
    psrWin := s.psrWin.tick
    wimWin := s.wimWin.tick
    tbaWin := s.tbaWin.tick
    yWin := s.yWin.tick
    codeHist := (s.codeHist.map fun e => { e with left := e.left - 1 }).filter fun e => decide (0 < e.left) }

end Sys2Proof.Machine
end

