-- ==== Sys2Proof/Machine/Flags.lean ====
section
/-! DEFINITION. The integer condition codes and the tests on condition codes (41_arith_logic_shift.md R171 to R174,
42_control_transfer.md R223 to R225). -/
namespace Sys2Proof.Machine

/-- The four condition codes, PSR.icc (10_state.md R36). -/
structure Icc where
  n : Bool
  z : Bool
  v : Bool
  c : Bool
deriving DecidableEq, Repr

/-- PSR.icc. -/
def Psr.icc (p : Psr) : Icc := { n := p.n, z := p.z, v := p.v, c := p.c }

/-- The PSR with other condition codes. -/
def Psr.withIcc (p : Psr) (i : Icc) : Psr := { p with n := i.n, z := i.z, v := i.v, c := i.c }

/-- The state with other condition codes. -/
def setIcc (s : State) (i : Icc) : State := { s with psr := s.psr.withIcc i }

/-- Overflow of an addition (R171). -/
def addV (a b res : Word) : Bool := (a.msb && b.msb && !res.msb) || (!a.msb && !b.msb && res.msb)

/-- Carry of an addition (R171). -/
def addC (a b res : Word) : Bool := (a.msb && b.msb) || (!res.msb && (a.msb || b.msb))

/-- Overflow of a subtraction (R172). -/
def subV (a b res : Word) : Bool := (a.msb && !b.msb && !res.msb) || (!a.msb && b.msb && res.msb)

/-- Borrow of a subtraction (R172). -/
def subC (a b res : Word) : Bool := (!a.msb && b.msb) || (res.msb && (!a.msb || b.msb))

/-- icc after an addition (R171). -/
def iccAdd (a b res : Word) : Icc := { n := res.msb, z := res = 0, v := addV a b res, c := addC a b res }

/-- icc after a subtraction (R172). -/
def iccSub (a b res : Word) : Icc := { n := res.msb, z := res = 0, v := subV a b res, c := subC a b res }

/-- icc after a logical operation (R173). -/
def iccLogic (res : Word) : Icc := { n := res.msb, z := res = 0, v := false, c := false }

/-- The tag term: a nonzero bit 1 or 0 of an operand (R174). -/
def tagged (a b : Word) : Bool := a.extractLsb' 0 2 ≠ 0 || b.extractLsb' 0 2 ≠ 0

/-- icc with the tag term in V (R174). -/
def Icc.withTag (i : Icc) (a b : Word) : Icc := { i with v := i.v || tagged a b }

/-- The 16 conditions of Bicc and Ticc (42_control_transfer.md R223). -/
inductive IccCond where
  | n | e | le | l | leu | cs | neg | vs | a | ne | g | ge | gu | cc | pos | vc
deriving DecidableEq, Repr

/-- The test of a condition on icc (R223). -/
def IccCond.test (i : Icc) : IccCond → Bool
  | .n => false
  | .e => i.z
  | .le => i.z || (i.n ^^ i.v)
  | .l => i.n ^^ i.v
  | .leu => i.c || i.z
  | .cs => i.c
  | .neg => i.n
  | .vs => i.v
  | .a => true
  | .ne => !i.z
  | .g => !(i.z || (i.n ^^ i.v))
  | .ge => !(i.n ^^ i.v)
  | .gu => !(i.c || i.z)
  | .cc => !i.c
  | .pos => !i.n
  | .vc => !i.v

/-- A condition of FBfcc or CBccc: the set of the two-bit values for which it holds (R224, R225). -/
structure PairCond where
  on0 : Bool
  on1 : Bool
  on2 : Bool
  on3 : Bool
  /-- The Always form, whose annul bit annuls a taken branch's delay instruction (R222). -/
  always : Bool
deriving DecidableEq, Repr

/-- The test of a condition on FCC or CCC. -/
def PairCond.test (c : PairCond) (cc : BitVec 2) : Bool :=
  match cc.toNat with
  | 0 => c.on0
  | 1 => c.on1
  | 2 => c.on2
  | _ => c.on3

/-- A condition that holds on the listed values and is no Always form. -/
def pairCond (l : List Nat) : PairCond :=
  { on0 := l.contains 0, on1 := l.contains 1, on2 := l.contains 2, on3 := l.contains 3, always := false }

/-- The Always condition of FBA and CBA. -/
def pairAlways : PairCond := { on0 := true, on1 := true, on2 := true, on3 := true, always := true }

end Sys2Proof.Machine
end

