-- ==== Sys2Proof/Syntax.lean ====
section
/-! DEFINITION. The instructions: one constructor for each row of spec/opcode_table.json. -/
namespace Sys2Proof

/-- The second operand: `r[rs2]` (i = 0) or a sign-extended 13-bit constant (i = 1), 30_encoding.md R85. -/
inductive RegOrImm where
  | reg (rs2 : Reg)
  | imm (simm13 : Int)
deriving DecidableEq, Repr

/-- The count of a shift: the low five bits of `r[rs2]`, or `shcnt` (41_arith_logic_shift.md R201). -/
inductive ShiftCount where
  | reg (rs2 : Reg)
  | imm (shcnt : BitVec 5)
deriving DecidableEq, Repr

/-- The instructions (30_encoding.md R80 to R92). Operands an instruction ignores are not held, but in the FPops and
CPops, whose word enters a queue (10_state.md R55, R58). -/
inductive Instr where
  | ldsb (rd rs1 : Reg) (op2 : RegOrImm)
  | ldsh (rd rs1 : Reg) (op2 : RegOrImm)
  | ldub (rd rs1 : Reg) (op2 : RegOrImm)
  | lduh (rd rs1 : Reg) (op2 : RegOrImm)
  | ld (rd rs1 : Reg) (op2 : RegOrImm)
  | ldd (rd rs1 : Reg) (op2 : RegOrImm)
  | ldsba (rd rs1 rs2 : Reg) (asi : Asi)
  | ldsha (rd rs1 rs2 : Reg) (asi : Asi)
  | lduba (rd rs1 rs2 : Reg) (asi : Asi)
  | lduha (rd rs1 rs2 : Reg) (asi : Asi)
  | lda (rd rs1 rs2 : Reg) (asi : Asi)
  | ldda (rd rs1 rs2 : Reg) (asi : Asi)
  | stb (rd rs1 : Reg) (op2 : RegOrImm)
  | sth (rd rs1 : Reg) (op2 : RegOrImm)
  | st (rd rs1 : Reg) (op2 : RegOrImm)
  | std (rd rs1 : Reg) (op2 : RegOrImm)
  | stba (rd rs1 rs2 : Reg) (asi : Asi)
  | stha (rd rs1 rs2 : Reg) (asi : Asi)
  | sta (rd rs1 rs2 : Reg) (asi : Asi)
  | stda (rd rs1 rs2 : Reg) (asi : Asi)
  | ldf (rd rs1 : Reg) (op2 : RegOrImm)
  | lddf (rd rs1 : Reg) (op2 : RegOrImm)
  | ldfsr (rs1 : Reg) (op2 : RegOrImm)
  | stf (rd rs1 : Reg) (op2 : RegOrImm)
  | stdf (rd rs1 : Reg) (op2 : RegOrImm)
  | stfsr (rs1 : Reg) (op2 : RegOrImm)
  | stdfq (rs1 : Reg) (op2 : RegOrImm)
  | ldstub (rd rs1 : Reg) (op2 : RegOrImm)
  | ldstuba (rd rs1 rs2 : Reg) (asi : Asi)
  | swap (rd rs1 : Reg) (op2 : RegOrImm)
  | swapa (rd rs1 rs2 : Reg) (asi : Asi)
  | ldc (rd rs1 : Reg) (op2 : RegOrImm)
  | lddc (rd rs1 : Reg) (op2 : RegOrImm)
  | ldcsr (rs1 : Reg) (op2 : RegOrImm)
  | stc (rd rs1 : Reg) (op2 : RegOrImm)
  | stdc (rd rs1 : Reg) (op2 : RegOrImm)
  | stcsr (rs1 : Reg) (op2 : RegOrImm)
  | stdcq (rs1 : Reg) (op2 : RegOrImm)
  | add (rd rs1 : Reg) (op2 : RegOrImm)
  | addcc (rd rs1 : Reg) (op2 : RegOrImm)
  | addx (rd rs1 : Reg) (op2 : RegOrImm)
  | addxcc (rd rs1 : Reg) (op2 : RegOrImm)
  | sub (rd rs1 : Reg) (op2 : RegOrImm)
  | subcc (rd rs1 : Reg) (op2 : RegOrImm)
  | subx (rd rs1 : Reg) (op2 : RegOrImm)
  | subxcc (rd rs1 : Reg) (op2 : RegOrImm)
  | taddcc (rd rs1 : Reg) (op2 : RegOrImm)
  | tsubcc (rd rs1 : Reg) (op2 : RegOrImm)
  | taddcctv (rd rs1 : Reg) (op2 : RegOrImm)
  | tsubcctv (rd rs1 : Reg) (op2 : RegOrImm)
  | mulscc (rd rs1 : Reg) (op2 : RegOrImm)
  | and (rd rs1 : Reg) (op2 : RegOrImm)
  | andcc (rd rs1 : Reg) (op2 : RegOrImm)
  | andn (rd rs1 : Reg) (op2 : RegOrImm)
  | andncc (rd rs1 : Reg) (op2 : RegOrImm)
  | or (rd rs1 : Reg) (op2 : RegOrImm)
  | orcc (rd rs1 : Reg) (op2 : RegOrImm)
  | orn (rd rs1 : Reg) (op2 : RegOrImm)
  | orncc (rd rs1 : Reg) (op2 : RegOrImm)
  | xor (rd rs1 : Reg) (op2 : RegOrImm)
  | xorcc (rd rs1 : Reg) (op2 : RegOrImm)
  | xnor (rd rs1 : Reg) (op2 : RegOrImm)
  | xnorcc (rd rs1 : Reg) (op2 : RegOrImm)
  | sethi (rd : Reg) (imm22 : BitVec 22)
  | sll (rd rs1 : Reg) (count : ShiftCount)
  | srl (rd rs1 : Reg) (count : ShiftCount)
  | sra (rd rs1 : Reg) (count : ShiftCount)
  | bn (annul : Bool) (disp22 : Int)
  | be (annul : Bool) (disp22 : Int)
  | ble (annul : Bool) (disp22 : Int)
  | bl (annul : Bool) (disp22 : Int)
  | bleu (annul : Bool) (disp22 : Int)
  | bcs (annul : Bool) (disp22 : Int)
  | bneg (annul : Bool) (disp22 : Int)
  | bvs (annul : Bool) (disp22 : Int)
  | ba (annul : Bool) (disp22 : Int)
  | bne (annul : Bool) (disp22 : Int)
  | bg (annul : Bool) (disp22 : Int)
  | bge (annul : Bool) (disp22 : Int)
  | bgu (annul : Bool) (disp22 : Int)
  | bcc (annul : Bool) (disp22 : Int)
  | bpos (annul : Bool) (disp22 : Int)
  | bvc (annul : Bool) (disp22 : Int)
  | fbn (annul : Bool) (disp22 : Int)
  | fbne (annul : Bool) (disp22 : Int)
  | fblg (annul : Bool) (disp22 : Int)
  | fbul (annul : Bool) (disp22 : Int)
  | fbl (annul : Bool) (disp22 : Int)
  | fbug (annul : Bool) (disp22 : Int)
  | fbg (annul : Bool) (disp22 : Int)
  | fbu (annul : Bool) (disp22 : Int)
  | fba (annul : Bool) (disp22 : Int)
  | fbe (annul : Bool) (disp22 : Int)
  | fbue (annul : Bool) (disp22 : Int)
  | fbge (annul : Bool) (disp22 : Int)
  | fbuge (annul : Bool) (disp22 : Int)
  | fble (annul : Bool) (disp22 : Int)
  | fbule (annul : Bool) (disp22 : Int)
  | fbo (annul : Bool) (disp22 : Int)
  | cbn (annul : Bool) (disp22 : Int)
  | cb123 (annul : Bool) (disp22 : Int)
  | cb12 (annul : Bool) (disp22 : Int)
  | cb13 (annul : Bool) (disp22 : Int)
  | cb1 (annul : Bool) (disp22 : Int)
  | cb23 (annul : Bool) (disp22 : Int)
  | cb2 (annul : Bool) (disp22 : Int)
  | cb3 (annul : Bool) (disp22 : Int)
  | cba (annul : Bool) (disp22 : Int)
  | cb0 (annul : Bool) (disp22 : Int)
  | cb03 (annul : Bool) (disp22 : Int)
  | cb02 (annul : Bool) (disp22 : Int)
  | cb023 (annul : Bool) (disp22 : Int)
  | cb01 (annul : Bool) (disp22 : Int)
  | cb013 (annul : Bool) (disp22 : Int)
  | cb012 (annul : Bool) (disp22 : Int)
  | call (disp30 : BitVec 30)
  | jmpl (rd rs1 : Reg) (op2 : RegOrImm)
  | rett (rs1 : Reg) (op2 : RegOrImm)
  | tn (rs1 : Reg) (op2 : RegOrImm)
  | te (rs1 : Reg) (op2 : RegOrImm)
  | tle (rs1 : Reg) (op2 : RegOrImm)
  | tl (rs1 : Reg) (op2 : RegOrImm)
  | tleu (rs1 : Reg) (op2 : RegOrImm)
  | tcs (rs1 : Reg) (op2 : RegOrImm)
  | tneg (rs1 : Reg) (op2 : RegOrImm)
  | tvs (rs1 : Reg) (op2 : RegOrImm)
  | ta (rs1 : Reg) (op2 : RegOrImm)
  | tne (rs1 : Reg) (op2 : RegOrImm)
  | tg (rs1 : Reg) (op2 : RegOrImm)
  | tge (rs1 : Reg) (op2 : RegOrImm)
  | tgu (rs1 : Reg) (op2 : RegOrImm)
  | tcc (rs1 : Reg) (op2 : RegOrImm)
  | tpos (rs1 : Reg) (op2 : RegOrImm)
  | tvc (rs1 : Reg) (op2 : RegOrImm)
  | save (rd rs1 : Reg) (op2 : RegOrImm)
  | restore (rd rs1 : Reg) (op2 : RegOrImm)
  | rdy (rd : Reg)
  | rdpsr (rd : Reg)
  | rdwim (rd : Reg)
  | rdtbr (rd : Reg)
  | wry (rs1 : Reg) (op2 : RegOrImm)
  | wrpsr (rs1 : Reg) (op2 : RegOrImm)
  | wrwim (rs1 : Reg) (op2 : RegOrImm)
  | wrtbr (rs1 : Reg) (op2 : RegOrImm)
  | iflush (rs1 : Reg) (op2 : RegOrImm)
  | unimp (const22 : BitVec 22)
  | fmovs (rd rs1 rs2 : Reg)
  | fnegs (rd rs1 rs2 : Reg)
  | fabss (rd rs1 rs2 : Reg)
  | fsqrts (rd rs1 rs2 : Reg)
  | fsqrtd (rd rs1 rs2 : Reg)
  | fsqrtx (rd rs1 rs2 : Reg)
  | fadds (rd rs1 rs2 : Reg)
  | faddd (rd rs1 rs2 : Reg)
  | faddx (rd rs1 rs2 : Reg)
  | fsubs (rd rs1 rs2 : Reg)
  | fsubd (rd rs1 rs2 : Reg)
  | fsubx (rd rs1 rs2 : Reg)
  | fmuls (rd rs1 rs2 : Reg)
  | fmuld (rd rs1 rs2 : Reg)
  | fmulx (rd rs1 rs2 : Reg)
  | fdivs (rd rs1 rs2 : Reg)
  | fdivd (rd rs1 rs2 : Reg)
  | fdivx (rd rs1 rs2 : Reg)
  | fitos (rd rs1 rs2 : Reg)
  | fdtos (rd rs1 rs2 : Reg)
  | fxtos (rd rs1 rs2 : Reg)
  | fitod (rd rs1 rs2 : Reg)
  | fstod (rd rs1 rs2 : Reg)
  | fxtod (rd rs1 rs2 : Reg)
  | fitox (rd rs1 rs2 : Reg)
  | fstox (rd rs1 rs2 : Reg)
  | fdtox (rd rs1 rs2 : Reg)
  | fstoi (rd rs1 rs2 : Reg)
  | fdtoi (rd rs1 rs2 : Reg)
  | fxtoi (rd rs1 rs2 : Reg)
  | fcmps (rd rs1 rs2 : Reg)
  | fcmpd (rd rs1 rs2 : Reg)
  | fcmpx (rd rs1 rs2 : Reg)
  | fcmpes (rd rs1 rs2 : Reg)
  | fcmped (rd rs1 rs2 : Reg)
  | fcmpex (rd rs1 rs2 : Reg)
  | cpop1 (rd rs1 : Reg) (opc : BitVec 9) (rs2 : Reg)
  | cpop2 (rd rs1 : Reg) (opc : BitVec 9) (rs2 : Reg)
deriving DecidableEq, Repr

end Sys2Proof
end

