-- ==== Sys2Proof/Machine/Operands.lean ====
section
/-! DEFINITION. The operand forms (30_encoding.md R83, R85). -/
namespace Sys2Proof.Machine

/-- A 13-bit constant as a word: sign-extended (R83). -/
def simm13Word (v : Int) : Word := BitVec.ofInt 32 v

/-- `operand2`: `r[rs2]` or the sign-extended constant (R85). -/
def operand2 (s : State) : RegOrImm → Word
  | .reg rs2 => readReg s .rs2 rs2
  | .imm v => simm13Word v

/-- The shift count: the low five bits of `r[rs2]`, or `shcnt` (41_arith_logic_shift.md R201). -/
def shiftCount (s : State) : ShiftCount → Nat
  | .reg rs2 => ((readReg s .rs2 rs2).extractLsb' 0 5).toNat
  | .imm n => n.toNat

/-- `r[rs1] + operand2` modulo 2^32: an effective address, a jump target, a trap number (40_load_store.md R100,
42_control_transfer.md R221). -/
def addressOf (s : State) (rs1 : Reg) (o : RegOrImm) : Word := readReg s .rs1 rs1 + operand2 s o

/-- `r[rs1] + r[rs2]`, the address of an alternate-space form (40_load_store.md R104). -/
def alternateAddress (s : State) (rs1 rs2 : Reg) : Word := readReg s .rs1 rs1 + readReg s .rs2 rs2

/-- A word displacement as a word: sign-extended (R83). -/
def dispWord (d : Int) : Word := BitVec.ofInt 32 d

end Sys2Proof.Machine
end

