-- ==== Sys2Proof/Machine/Arith.lean ====
section
/-! DEFINITION. Arithmetic, logical, shift and tagged instructions, SETHI and MULScc (41_arith_logic_shift.md). -/
namespace Sys2Proof.Machine

/-- What an instruction of this model answers. -/
abbrev Result := Host.Outcome State Fault Refusal

/-- Write `r[rd]`, then the default advance (R170, 10_state.md R30). -/
def finish (s : State) (rd : Reg) (v : Word) : State := advance (writeReg s .rd rd v)

/-- `r[rd] ← op a operand2`, icc unchanged (R170). -/
def arith (op : Word → Word → Word) (rd rs1 : Reg) (o : RegOrImm) (s : State) : Result :=
  .next (finish s rd (op (readReg s .rs1 rs1) (operand2 s o)))

/-- `res ← op a operand2; r[rd] ← res; icc ← flags a operand2 res` (R170). -/
def arithCc (op : Word → Word → Word) (flags : Word → Word → Word → Icc) (rd rs1 : Reg) (o : RegOrImm) (s : State) :
    Result :=
  let a := readReg s .rs1 rs1
  let b := operand2 s o
  let res := op a b
  .next (setIcc (finish s rd res) (flags a b res))

/-- The carry that ADDX and SUBX read, as a word (R177, R181). DESIGN CHOICE: inside the window of a WRPSR it is taken on its own,
not with N, Z and V; R269 and R511 do not say whether icc counts as one field or as four (log 7). -/
def carryWord (s : State) : Word := (BitVec.ofBool (usePsr s Psr.c .carry)).setWidth 32

/-- The trapping tagged forms: tag_overflow, or the result with V = 0 (R185). -/
def arithTv (op : Word → Word → Word) (flags : Word → Word → Word → Icc) (rd rs1 : Reg) (o : RegOrImm) (s : State) :
    Result :=
  let a := readReg s .rs1 rs1
  let b := operand2 s o
  let res := op a b
  let icc := (flags a b res).withTag a b
  if icc.v then .next (raise s ttTagOverflow) else .next (setIcc (finish s rd res) icc)

/-- `r[rd] ← op r[rs1] count` (R201). -/
def shift (op : Word → Nat → Word) (rd rs1 : Reg) (c : ShiftCount) (s : State) : Result :=
  .next (finish s rd (op (readReg s .rs1 rs1) (shiftCount s c)))

/-- ADD (R175). -/
def execAdd (rd rs1 : Reg) (op2 : RegOrImm) (s : State) : Result :=
  arith (fun a b => a + b) rd rs1 op2 s

/-- ADDcc (R176). -/
def execAddcc (rd rs1 : Reg) (op2 : RegOrImm) (s : State) : Result :=
  arithCc (fun a b => a + b) iccAdd rd rs1 op2 s

/-- ADDX (R177). -/
def execAddx (rd rs1 : Reg) (op2 : RegOrImm) (s : State) : Result :=
  arith (fun a b => a + b + carryWord s) rd rs1 op2 s

/-- ADDXcc (R178). -/
def execAddxcc (rd rs1 : Reg) (op2 : RegOrImm) (s : State) : Result :=
  arithCc (fun a b => a + b + carryWord s) iccAdd rd rs1 op2 s

/-- SUB (R179). -/
def execSub (rd rs1 : Reg) (op2 : RegOrImm) (s : State) : Result :=
  arith (fun a b => a - b) rd rs1 op2 s

/-- SUBcc (R180). -/
def execSubcc (rd rs1 : Reg) (op2 : RegOrImm) (s : State) : Result :=
  arithCc (fun a b => a - b) iccSub rd rs1 op2 s

/-- SUBX (R181). -/
def execSubx (rd rs1 : Reg) (op2 : RegOrImm) (s : State) : Result :=
  arith (fun a b => a - b - carryWord s) rd rs1 op2 s

/-- SUBXcc (R182). -/
def execSubxcc (rd rs1 : Reg) (op2 : RegOrImm) (s : State) : Result :=
  arithCc (fun a b => a - b - carryWord s) iccSub rd rs1 op2 s

/-- TADDcc (R183). -/
def execTaddcc (rd rs1 : Reg) (op2 : RegOrImm) (s : State) : Result :=
  arithCc (fun a b => a + b) (fun a b res => (iccAdd a b res).withTag a b) rd rs1 op2 s

/-- TSUBcc (R184). -/
def execTsubcc (rd rs1 : Reg) (op2 : RegOrImm) (s : State) : Result :=
  arithCc (fun a b => a - b) (fun a b res => (iccSub a b res).withTag a b) rd rs1 op2 s

/-- TADDccTV (R185). -/
def execTaddcctv (rd rs1 : Reg) (op2 : RegOrImm) (s : State) : Result :=
  arithTv (fun a b => a + b) iccAdd rd rs1 op2 s

/-- TSUBccTV (R185). -/
def execTsubcctv (rd rs1 : Reg) (op2 : RegOrImm) (s : State) : Result :=
  arithTv (fun a b => a - b) iccSub rd rs1 op2 s

/-- The first operand of MULScc: the old N xor V above `r[rs1]` shifted right by one (R186). -/
def mulOp1 (i : Icc) (a : Word) : Word := BitVec.ofBool (i.n ^^ i.v) ++ a.extractLsb' 1 31

/-- The Y register after MULScc: the low bit of `r[rs1]` above Y shifted right by one (R186). -/
def mulY (a y : Word) : Word := a.extractLsb' 0 1 ++ y.extractLsb' 1 31

/-- MULScc (R186). -/
def execMulscc (rd rs1 : Reg) (op2 : RegOrImm) (s : State) : Result :=
  let a := readReg s .rs1 rs1
  let y := useY s .mulY
  let op1 := mulOp1 (usePsr s Psr.icc .mulIcc) a
  let b := if y.getLsbD 0 then operand2 s op2 else 0
  let res := op1 + b
  .next { setIcc (finish s rd res) (iccAdd op1 b res) with y := mulY a y }

/-- AND (R188). -/
def execAnd (rd rs1 : Reg) (op2 : RegOrImm) (s : State) : Result :=
  arith (fun a b => a &&& b) rd rs1 op2 s

/-- ANDcc (R189). -/
def execAndcc (rd rs1 : Reg) (op2 : RegOrImm) (s : State) : Result :=
  arithCc (fun a b => a &&& b) (fun _ _ res => iccLogic res) rd rs1 op2 s

/-- ANDN (R190). -/
def execAndn (rd rs1 : Reg) (op2 : RegOrImm) (s : State) : Result :=
  arith (fun a b => a &&& ~~~b) rd rs1 op2 s

/-- ANDNcc (R191). -/
def execAndncc (rd rs1 : Reg) (op2 : RegOrImm) (s : State) : Result :=
  arithCc (fun a b => a &&& ~~~b) (fun _ _ res => iccLogic res) rd rs1 op2 s

/-- OR (R192). -/
def execOr (rd rs1 : Reg) (op2 : RegOrImm) (s : State) : Result :=
  arith (fun a b => a ||| b) rd rs1 op2 s

/-- ORcc (R193). -/
def execOrcc (rd rs1 : Reg) (op2 : RegOrImm) (s : State) : Result :=
  arithCc (fun a b => a ||| b) (fun _ _ res => iccLogic res) rd rs1 op2 s

/-- ORN (R194). -/
def execOrn (rd rs1 : Reg) (op2 : RegOrImm) (s : State) : Result :=
  arith (fun a b => a ||| ~~~b) rd rs1 op2 s

/-- ORNcc (R195). -/
def execOrncc (rd rs1 : Reg) (op2 : RegOrImm) (s : State) : Result :=
  arithCc (fun a b => a ||| ~~~b) (fun _ _ res => iccLogic res) rd rs1 op2 s

/-- XOR (R196). -/
def execXor (rd rs1 : Reg) (op2 : RegOrImm) (s : State) : Result :=
  arith (fun a b => a ^^^ b) rd rs1 op2 s

/-- XORcc (R197). -/
def execXorcc (rd rs1 : Reg) (op2 : RegOrImm) (s : State) : Result :=
  arithCc (fun a b => a ^^^ b) (fun _ _ res => iccLogic res) rd rs1 op2 s

/-- XNOR (R198). -/
def execXnor (rd rs1 : Reg) (op2 : RegOrImm) (s : State) : Result :=
  arith (fun a b => ~~~(a ^^^ b)) rd rs1 op2 s

/-- XNORcc (R199). -/
def execXnorcc (rd rs1 : Reg) (op2 : RegOrImm) (s : State) : Result :=
  arithCc (fun a b => ~~~(a ^^^ b)) (fun _ _ res => iccLogic res) rd rs1 op2 s

/-- SETHI (R200). -/
def execSethi (rd : Reg) (imm22 : BitVec 22) (s : State) : Result :=
  .next (finish s rd (imm22 ++ 0#10))

/-- SLL (R202). -/
def execSll (rd rs1 : Reg) (count : ShiftCount) (s : State) : Result :=
  shift (fun a n => a <<< n) rd rs1 count s

/-- SRL (R203). -/
def execSrl (rd rs1 : Reg) (count : ShiftCount) (s : State) : Result :=
  shift (fun a n => a >>> n) rd rs1 count s

/-- SRA (R204). -/
def execSra (rd rs1 : Reg) (count : ShiftCount) (s : State) : Result :=
  shift (fun a n => a.sshiftRight n) rd rs1 count s

end Sys2Proof.Machine
end

