-- ==== Sys2Proof/Machine/CpUnit.lean ====
section
/-! DEFINITION. The second coprocessor as a unit: its condition codes, its queue and how the CPops in it end
(45_coprocessor.md R340, R341, R344, R345). What a CPop computes is opaque (log 19). -/
namespace Sys2Proof.Machine

/-! ## The condition codes (R340 (d)) -/

/-- The two bits of CSR that are CCC. -/
def cpCccOfCsr (csr : Word) : BitVec 2 :=
  BitVec.ofBool (csr.getLsbD Config.cpCccPlace.1) ++ BitVec.ofBool (csr.getLsbD Config.cpCccPlace.2)

/-- The word `new` with the two bits of CCC taken from `old`. -/
def keepCcc (old new : Word) : Word :=
  let mask : Word := (1#32 <<< Config.cpCccPlace.1.val) ||| (1#32 <<< Config.cpCccPlace.2.val)
  (old &&& mask) ||| (new &&& ~~~mask)

/-- The registers and CSR of a coprocessor. -/
def cpRegisters (c : CpState) : CpRegs := { c := c.c, csr := c.csr }

/-- The coprocessor with other registers and another CSR; CCC follows CSR. -/
def cpWithRegisters (c : CpState) (r : CpRegs) : CpState :=
  { c with c := r.c, csr := r.csr, ccc := cpCccOfCsr r.csr }

/-! ## The queue (R340 (c), (e), R344) -/

/-- The coprocessor has a CPop at work: execution mode, and the queue is not empty. -/
def cpBusy (c : CpState) : Bool := c.mode = .execution && !c.cq.isEmpty

/-- A CPop is accepted: in execution mode it joins the queue and stays there until it ends. DESIGN CHOICE: the queue takes any
number of CPops; R340 does not give its depth, and a coprocessor whose queue is full holds the IU with CHOLD, which is among the
choices of `cpHeld` (log 19). In exception mode the coprocessor keeps
its mode, and what it does with the CPop is its own affair: R344 does not say whether it rejects it (log 19). -/
def cpAccept (draws : Nat) (e : QueueEntry) (c : CpState) : CpState :=
  if c.mode = .execution then { c with cq := c.cq ++ [e] }
  else
    let r := Config.cpOpInException draws e (cpRegisters c)
    { cpWithRegisters c r.1 with cq := if r.2 then c.cq ++ [e] else c.cq }

/-- The CPop at the front of the queue ends: it leaves the queue, or it has met an exception, which is then pending while the
CPop stays the front entry. A CPop that is no compare leaves CCC alone. Nothing ends in the other modes. `i` tells the ends of one
step apart. -/
def cpEnd (draws i : Nat) (c : CpState) : CpState :=
  match c.mode, c.cq with
  | .execution, e :: rest =>
    let r := Config.cpOp draws i e (cpRegisters c)
    let csr := if Config.cpCompares e.instr then r.1.csr else keepCcc c.csr r.1.csr
    let d := cpWithRegisters c { r.1 with csr := csr }
    if r.2 then { d with mode := .pending } else { d with cq := rest }
  | _, _ => c

/-- As many CPops end, one after another, as far as there are any and none meets an exception. -/
def cpEnds (draws : Nat) : Nat → CpState → CpState
  | 0, c => c
  | n + 1, c => cpEnds draws n (cpEnd draws n c)

/-- The state with another coprocessor. -/
def withCp (s : State) (c : CpState) : State := { s with cp := c }

/-! ## How long the IU waits for CPops (R341, R345) -/

/-- How many CPops must end until no compare is left in the queue. -/
def cpToLastCompare (q : List QueueEntry) : Nat := (q.reverse.dropWhile fun e => !Config.cpCompares e.instr).length

/-- CCCV is down: a compare is at work, and the IU is halted until it has ended (R345). DESIGN CHOICE: in exception mode nothing
ends, and CCCV is up, so a branch tests CCC as they are; R345 does not say (log 19). -/
def cpComparing (c : CpState) : Bool := cpBusy c && c.cq.any fun e => Config.cpCompares e.instr

/-- CCCV: every compare accepted before has ended, or an exception is pending (R345). -/
def cpCompared (s : State) : State := withCp s (cpEnds s.draws (cpToLastCompare s.cp.cq) s.cp)

/-- CHOLD: a coprocessor load, store or CPop waits until CPops of the queue have ended, as many as the coprocessor wants
(R341, log 19), and at least every compare (R345). -/
def cpHeld (s : State) : State :=
  if cpBusy s.cp then
    withCp s (cpEnds s.draws (max (cpToLastCompare s.cp.cq) (Config.cpHolds s.draws s.cp)) s.cp)
  else s

/-! ## The coprocessor's own step (00_scope.md R8 (c), R341) -/

/-- A step of the coprocessor: the front CPop ends. -/
def cpOwnStep (draws : Nat) (c : CpState) : CpState := cpEnd draws 0 c

end Sys2Proof.Machine
end

