-- ==== Sys2Proof/Machine/Control.lean ====
section
/-! DEFINITION. Control transfer: branches, CALL, JMPL, RETT, Ticc, SAVE and RESTORE (42_control_transfer.md). -/
namespace Sys2Proof.Machine

/-- fp_exception: the IU's acknowledgement takes the FPU from pending exception mode to exception mode
(44_floating_point.md R296). DESIGN CHOICE: so it does where the trap is due with ET = 0 and the IU enters error mode; R420 and
R421 do not say (log 50). -/
def raiseFpException (s : State) : State := raise { s with fpMode := .exception } ttFpException

/-- cp_exception: the acknowledgement takes the coprocessor to exception mode (45_coprocessor.md R344). DESIGN CHOICE: so it does
where the trap is due with ET = 0 and the IU enters error mode; R344 and R421 do not say (log 50). -/
def raiseCpException (s : State) : State := raise { s with cp := { s.cp with mode := .exception } } ttCpException

/-- PC and nPC after a conditional branch with a word displacement, by the annul bit (R222). `always` is cond = 1000. A
branch other than the Always form that leaves its delay instruction at PC is remembered in `condDelay` (R242). -/
def branch (always taken annul : Bool) (disp : Int) (s : State) : State :=
  let target := relativeTarget s (dispWord disp)
  let mark (t : State) : State := { t with condDelay := !always && !s.condDelay }
  if taken then
    if always && annul then transfer s target (target + 4) else mark (transfer s s.npc target)
  else
    if annul then transfer s (s.npc + 4) (s.npc + 8) else mark (transfer s s.npc (s.npc + 4))

/-- Bicc (R223). DESIGN CHOICE: inside the window of a WRPSR the flags are taken whole, all from one of its values, here, at Ticc
and at MULScc; R269 and R511 do not say whether icc counts as one field or as four (log 7). -/
def branchIcc (c : IccCond) (annul : Bool) (disp : Int) (s : State) : Result :=
  .next (branch (c = .a) (c.test (usePsr s Psr.icc .icc)) annul disp s)

/-- FBfcc: fp_disabled, then a pending exception, then the branch (R224). -/
def branchFcc (c : PairCond) (annul : Bool) (disp : Int) (s : State) : Result :=
  if !fpEnabled s then .next (raise s ttFpDisabled)
  else if s.fpMode = .pending then .next (raiseFpException s)
  else .next (branch c.always (c.test s.fsr.fcc) annul disp s)

/-- CBccc: cp_disabled, the wait for the compares, then a pending exception, then the branch (R225, 45_coprocessor.md R345). -/
def branchCcc (c : PairCond) (annul : Bool) (disp : Int) (s : State) : Result :=
  if !cpEnabled s then .next (raise s ttCpDisabled)
  else
    let s1 := cpCompared s
    if s1.cp.mode = .pending then .next (raiseCpException s1)
    else .next (branch c.always (c.test s1.cp.ccc) annul disp s1)

/-- The trap type of a Ticc: 128 plus the low seven bits of the sum (R229). -/
def softwareTrap (a : Word) : TrapType := 1#1 ++ a.extractLsb' 0 7

/-- Ticc: not delayed, a trap or the default advance (R229). -/
def trapIcc (c : IccCond) (rs1 : Reg) (o : RegOrImm) (s : State) : Result :=
  if c.test (usePsr s Psr.icc .icc) then .next (raise s (softwareTrap (addressOf s rs1 o))) else .next (advance s)

/-- Whether an address is not a multiple of the size (20_memory.md R67). -/
def misaligned (a : Word) : Size → Bool
  | .byte => false
  | .half => a.extractLsb' 0 1 ≠ 0
  | .word => a.extractLsb' 0 2 ≠ 0
  | .double => a.extractLsb' 0 3 ≠ 0

/-- BN (R223). -/
def execBn (annul : Bool) (disp22 : Int) (s : State) : Result := branchIcc .n annul disp22 s

/-- BE (R223). -/
def execBe (annul : Bool) (disp22 : Int) (s : State) : Result := branchIcc .e annul disp22 s

/-- BLE (R223). -/
def execBle (annul : Bool) (disp22 : Int) (s : State) : Result := branchIcc .le annul disp22 s

/-- BL (R223). -/
def execBl (annul : Bool) (disp22 : Int) (s : State) : Result := branchIcc .l annul disp22 s

/-- BLEU (R223). -/
def execBleu (annul : Bool) (disp22 : Int) (s : State) : Result := branchIcc .leu annul disp22 s

/-- BCS (R223). -/
def execBcs (annul : Bool) (disp22 : Int) (s : State) : Result := branchIcc .cs annul disp22 s

/-- BNEG (R223). -/
def execBneg (annul : Bool) (disp22 : Int) (s : State) : Result := branchIcc .neg annul disp22 s

/-- BVS (R223). -/
def execBvs (annul : Bool) (disp22 : Int) (s : State) : Result := branchIcc .vs annul disp22 s

/-- BA (R223). -/
def execBa (annul : Bool) (disp22 : Int) (s : State) : Result := branchIcc .a annul disp22 s

/-- BNE (R223). -/
def execBne (annul : Bool) (disp22 : Int) (s : State) : Result := branchIcc .ne annul disp22 s

/-- BG (R223). -/
def execBg (annul : Bool) (disp22 : Int) (s : State) : Result := branchIcc .g annul disp22 s

/-- BGE (R223). -/
def execBge (annul : Bool) (disp22 : Int) (s : State) : Result := branchIcc .ge annul disp22 s

/-- BGU (R223). -/
def execBgu (annul : Bool) (disp22 : Int) (s : State) : Result := branchIcc .gu annul disp22 s

/-- BCC (R223). -/
def execBcc (annul : Bool) (disp22 : Int) (s : State) : Result := branchIcc .cc annul disp22 s

/-- BPOS (R223). -/
def execBpos (annul : Bool) (disp22 : Int) (s : State) : Result := branchIcc .pos annul disp22 s

/-- BVC (R223). -/
def execBvc (annul : Bool) (disp22 : Int) (s : State) : Result := branchIcc .vc annul disp22 s

/-- FBN (R224). -/
def execFbn (annul : Bool) (disp22 : Int) (s : State) : Result := branchFcc (pairCond []) annul disp22 s

/-- FBNE (R224). -/
def execFbne (annul : Bool) (disp22 : Int) (s : State) : Result := branchFcc (pairCond [1, 2, 3]) annul disp22 s

/-- FBLG (R224). -/
def execFblg (annul : Bool) (disp22 : Int) (s : State) : Result := branchFcc (pairCond [1, 2]) annul disp22 s

/-- FBUL (R224). -/
def execFbul (annul : Bool) (disp22 : Int) (s : State) : Result := branchFcc (pairCond [1, 3]) annul disp22 s

/-- FBL (R224). -/
def execFbl (annul : Bool) (disp22 : Int) (s : State) : Result := branchFcc (pairCond [1]) annul disp22 s

/-- FBUG (R224). -/
def execFbug (annul : Bool) (disp22 : Int) (s : State) : Result := branchFcc (pairCond [2, 3]) annul disp22 s

/-- FBG (R224). -/
def execFbg (annul : Bool) (disp22 : Int) (s : State) : Result := branchFcc (pairCond [2]) annul disp22 s

/-- FBU (R224). -/
def execFbu (annul : Bool) (disp22 : Int) (s : State) : Result := branchFcc (pairCond [3]) annul disp22 s

/-- FBA (R224). -/
def execFba (annul : Bool) (disp22 : Int) (s : State) : Result := branchFcc pairAlways annul disp22 s

/-- FBE (R224). -/
def execFbe (annul : Bool) (disp22 : Int) (s : State) : Result := branchFcc (pairCond [0]) annul disp22 s

/-- FBUE (R224). -/
def execFbue (annul : Bool) (disp22 : Int) (s : State) : Result := branchFcc (pairCond [0, 3]) annul disp22 s

/-- FBGE (R224). -/
def execFbge (annul : Bool) (disp22 : Int) (s : State) : Result := branchFcc (pairCond [0, 2]) annul disp22 s

/-- FBUGE (R224). -/
def execFbuge (annul : Bool) (disp22 : Int) (s : State) : Result := branchFcc (pairCond [0, 2, 3]) annul disp22 s

/-- FBLE (R224). -/
def execFble (annul : Bool) (disp22 : Int) (s : State) : Result := branchFcc (pairCond [0, 1]) annul disp22 s

/-- FBULE (R224). -/
def execFbule (annul : Bool) (disp22 : Int) (s : State) : Result := branchFcc (pairCond [0, 1, 3]) annul disp22 s

/-- FBO (R224). -/
def execFbo (annul : Bool) (disp22 : Int) (s : State) : Result := branchFcc (pairCond [0, 1, 2]) annul disp22 s

/-- CBN (R225). -/
def execCbn (annul : Bool) (disp22 : Int) (s : State) : Result := branchCcc (pairCond []) annul disp22 s

/-- CB123 (R225). -/
def execCb123 (annul : Bool) (disp22 : Int) (s : State) : Result := branchCcc (pairCond [1, 2, 3]) annul disp22 s

/-- CB12 (R225). -/
def execCb12 (annul : Bool) (disp22 : Int) (s : State) : Result := branchCcc (pairCond [1, 2]) annul disp22 s

/-- CB13 (R225). -/
def execCb13 (annul : Bool) (disp22 : Int) (s : State) : Result := branchCcc (pairCond [1, 3]) annul disp22 s

/-- CB1 (R225). -/
def execCb1 (annul : Bool) (disp22 : Int) (s : State) : Result := branchCcc (pairCond [1]) annul disp22 s

/-- CB23 (R225). -/
def execCb23 (annul : Bool) (disp22 : Int) (s : State) : Result := branchCcc (pairCond [2, 3]) annul disp22 s

/-- CB2 (R225). -/
def execCb2 (annul : Bool) (disp22 : Int) (s : State) : Result := branchCcc (pairCond [2]) annul disp22 s

/-- CB3 (R225). -/
def execCb3 (annul : Bool) (disp22 : Int) (s : State) : Result := branchCcc (pairCond [3]) annul disp22 s

/-- CBA (R225). -/
def execCba (annul : Bool) (disp22 : Int) (s : State) : Result := branchCcc pairAlways annul disp22 s

/-- CB0 (R225). -/
def execCb0 (annul : Bool) (disp22 : Int) (s : State) : Result := branchCcc (pairCond [0]) annul disp22 s

/-- CB03 (R225). -/
def execCb03 (annul : Bool) (disp22 : Int) (s : State) : Result := branchCcc (pairCond [0, 3]) annul disp22 s

/-- CB02 (R225). -/
def execCb02 (annul : Bool) (disp22 : Int) (s : State) : Result := branchCcc (pairCond [0, 2]) annul disp22 s

/-- CB023 (R225). -/
def execCb023 (annul : Bool) (disp22 : Int) (s : State) : Result := branchCcc (pairCond [0, 2, 3]) annul disp22 s

/-- CB01 (R225). -/
def execCb01 (annul : Bool) (disp22 : Int) (s : State) : Result := branchCcc (pairCond [0, 1]) annul disp22 s

/-- CB013 (R225). -/
def execCb013 (annul : Bool) (disp22 : Int) (s : State) : Result := branchCcc (pairCond [0, 1, 3]) annul disp22 s

/-- CB012 (R225). -/
def execCb012 (annul : Bool) (disp22 : Int) (s : State) : Result := branchCcc (pairCond [0, 1, 2]) annul disp22 s

/-- TN (R229). -/
def execTn (rs1 : Reg) (op2 : RegOrImm) (s : State) : Result := trapIcc .n rs1 op2 s

/-- TE (R229). -/
def execTe (rs1 : Reg) (op2 : RegOrImm) (s : State) : Result := trapIcc .e rs1 op2 s

/-- TLE (R229). -/
def execTle (rs1 : Reg) (op2 : RegOrImm) (s : State) : Result := trapIcc .le rs1 op2 s

/-- TL (R229). -/
def execTl (rs1 : Reg) (op2 : RegOrImm) (s : State) : Result := trapIcc .l rs1 op2 s

/-- TLEU (R229). -/
def execTleu (rs1 : Reg) (op2 : RegOrImm) (s : State) : Result := trapIcc .leu rs1 op2 s

/-- TCS (R229). -/
def execTcs (rs1 : Reg) (op2 : RegOrImm) (s : State) : Result := trapIcc .cs rs1 op2 s

/-- TNEG (R229). -/
def execTneg (rs1 : Reg) (op2 : RegOrImm) (s : State) : Result := trapIcc .neg rs1 op2 s

/-- TVS (R229). -/
def execTvs (rs1 : Reg) (op2 : RegOrImm) (s : State) : Result := trapIcc .vs rs1 op2 s

/-- TA (R229). -/
def execTa (rs1 : Reg) (op2 : RegOrImm) (s : State) : Result := trapIcc .a rs1 op2 s

/-- TNE (R229). -/
def execTne (rs1 : Reg) (op2 : RegOrImm) (s : State) : Result := trapIcc .ne rs1 op2 s

/-- TG (R229). -/
def execTg (rs1 : Reg) (op2 : RegOrImm) (s : State) : Result := trapIcc .g rs1 op2 s

/-- TGE (R229). -/
def execTge (rs1 : Reg) (op2 : RegOrImm) (s : State) : Result := trapIcc .ge rs1 op2 s

/-- TGU (R229). -/
def execTgu (rs1 : Reg) (op2 : RegOrImm) (s : State) : Result := trapIcc .gu rs1 op2 s

/-- TCC (R229). -/
def execTcc (rs1 : Reg) (op2 : RegOrImm) (s : State) : Result := trapIcc .cc rs1 op2 s

/-- TPOS (R229). -/
def execTpos (rs1 : Reg) (op2 : RegOrImm) (s : State) : Result := trapIcc .pos rs1 op2 s

/-- TVC (R229). -/
def execTvc (rs1 : Reg) (op2 : RegOrImm) (s : State) : Result := trapIcc .vc rs1 op2 s

/-- CALL: r[15] ← PC, a delayed transfer by 30 bits of word displacement (R226). -/
def execCall (disp30 : BitVec 30) (s : State) : Result :=
  .next (transfer (writeReg s .link 15 s.pc) s.npc (relativeTarget s (disp30.setWidth 32)))

/-- JMPL: mem_address_not_aligned, or r[rd] ← PC and a delayed transfer (R227). -/
def execJmpl (rd rs1 : Reg) (op2 : RegOrImm) (s : State) : Result :=
  let target := addressOf s rs1 op2
  if misaligned target .word then .next (raise s ttNotAligned)
  else .next (transfer (writeReg s .link rd s.pc) s.npc target)

/-- RETT: illegal_instruction with ET = 1; with ET = 0, error mode for the first of S = 0, window underflow and a misaligned
target, else the return (R228). -/
def execRett (rs1 : Reg) (op2 : RegOrImm) (s : State) : Result :=
  let ncwp := useCwp s .cwp + 1
  let target := addressOf s rs1 op2
  if usePsr s Psr.et .trapEnable then .next (raise s ttIllegal)
  else if !supervisor s then .next (enterErrorMode s ttPrivileged)
  else if (useWim s .wim).getLsbD ncwp.toNat then .next (enterErrorMode s ttWindowUnderflow)
  else if misaligned target .word then .next (enterErrorMode s ttNotAligned)
  else .next (returnFromTrap s ncwp target)

/-- SAVE and RESTORE move to the window `ncwp`: the sum is formed in the old window and written in the new one
(R235, R236). -/
def moveWindow (ncwp : BitVec 3) (rd rs1 : Reg) (o : RegOrImm) (s : State) : State :=
  let result := addressOf s rs1 o
  advance (setRegIn { s with psr := { s.psr with cwp := ncwp } } ncwp rd result)

/-- SAVE (R235). -/
def execSave (rd rs1 : Reg) (op2 : RegOrImm) (s : State) : Result :=
  let ncwp := useCwp s .cwp - 1
  if (useWim s .wim).getLsbD ncwp.toNat then .next (raise s ttWindowOverflow)
  else .next (moveWindow ncwp rd rs1 op2 s)

/-- RESTORE (R236). -/
def execRestore (rd rs1 : Reg) (op2 : RegOrImm) (s : State) : Result :=
  let ncwp := useCwp s .cwp + 1
  if (useWim s .wim).getLsbD ncwp.toNat then .next (raise s ttWindowUnderflow)
  else .next (moveWindow ncwp rd rs1 op2 s)

end Sys2Proof.Machine
end

