-- ==== Sys2Proof/WellFormed.lean ====
section
/-! DEFINITION. Which instruction terms have an encoding: the constants that must fit their field. -/
namespace Sys2Proof

/-- A simm13 is in the range −4096 to 4095 (30_encoding.md R83). -/
def RegOrImm.wellFormed : RegOrImm → Bool
  | .reg _ => true
  | .imm v => decide (-4096 ≤ v ∧ v ≤ 4095)

/-- A disp22 is in the range −2^21 to 2^21 − 1 (30_encoding.md R83). -/
def disp22WellFormed (d : Int) : Bool := decide (-2097152 ≤ d ∧ d ≤ 2097151)

/-- The constants of the instruction fit their fields. -/
def Instr.wellFormed : Instr → Bool
  | .ldsb _ _ o => o.wellFormed
  | .ldsh _ _ o => o.wellFormed
  | .ldub _ _ o => o.wellFormed
  | .lduh _ _ o => o.wellFormed
  | .ld _ _ o => o.wellFormed
  | .ldd _ _ o => o.wellFormed
  | .ldsba _ _ _ _ => true
  | .ldsha _ _ _ _ => true
  | .lduba _ _ _ _ => true
  | .lduha _ _ _ _ => true
  | .lda _ _ _ _ => true
  | .ldda _ _ _ _ => true
  | .stb _ _ o => o.wellFormed
  | .sth _ _ o => o.wellFormed
  | .st _ _ o => o.wellFormed
  | .std _ _ o => o.wellFormed
  | .stba _ _ _ _ => true
  | .stha _ _ _ _ => true
  | .sta _ _ _ _ => true
  | .stda _ _ _ _ => true
  | .ldf _ _ o => o.wellFormed
  | .lddf _ _ o => o.wellFormed
  | .ldfsr _ o => o.wellFormed
  | .stf _ _ o => o.wellFormed
  | .stdf _ _ o => o.wellFormed
  | .stfsr _ o => o.wellFormed
  | .stdfq _ o => o.wellFormed
  | .ldstub _ _ o => o.wellFormed
  | .ldstuba _ _ _ _ => true
  | .swap _ _ o => o.wellFormed
  | .swapa _ _ _ _ => true
  | .ldc _ _ o => o.wellFormed
  | .lddc _ _ o => o.wellFormed
  | .ldcsr _ o => o.wellFormed
  | .stc _ _ o => o.wellFormed
  | .stdc _ _ o => o.wellFormed
  | .stcsr _ o => o.wellFormed
  | .stdcq _ o => o.wellFormed
  | .add _ _ o => o.wellFormed
  | .addcc _ _ o => o.wellFormed
  | .addx _ _ o => o.wellFormed
  | .addxcc _ _ o => o.wellFormed
  | .sub _ _ o => o.wellFormed
  | .subcc _ _ o => o.wellFormed
  | .subx _ _ o => o.wellFormed
  | .subxcc _ _ o => o.wellFormed
  | .taddcc _ _ o => o.wellFormed
  | .tsubcc _ _ o => o.wellFormed
  | .taddcctv _ _ o => o.wellFormed
  | .tsubcctv _ _ o => o.wellFormed
  | .mulscc _ _ o => o.wellFormed
  | .and _ _ o => o.wellFormed
  | .andcc _ _ o => o.wellFormed
  | .andn _ _ o => o.wellFormed
  | .andncc _ _ o => o.wellFormed
  | .or _ _ o => o.wellFormed
  | .orcc _ _ o => o.wellFormed
  | .orn _ _ o => o.wellFormed
  | .orncc _ _ o => o.wellFormed
  | .xor _ _ o => o.wellFormed
  | .xorcc _ _ o => o.wellFormed
  | .xnor _ _ o => o.wellFormed
  | .xnorcc _ _ o => o.wellFormed
  | .sethi _ _ => true
  | .sll _ _ _ => true
  | .srl _ _ _ => true
  | .sra _ _ _ => true
  | .bn _ d => disp22WellFormed d
  | .be _ d => disp22WellFormed d
  | .ble _ d => disp22WellFormed d
  | .bl _ d => disp22WellFormed d
  | .bleu _ d => disp22WellFormed d
  | .bcs _ d => disp22WellFormed d
  | .bneg _ d => disp22WellFormed d
  | .bvs _ d => disp22WellFormed d
  | .ba _ d => disp22WellFormed d
  | .bne _ d => disp22WellFormed d
  | .bg _ d => disp22WellFormed d
  | .bge _ d => disp22WellFormed d
  | .bgu _ d => disp22WellFormed d
  | .bcc _ d => disp22WellFormed d
  | .bpos _ d => disp22WellFormed d
  | .bvc _ d => disp22WellFormed d
  | .fbn _ d => disp22WellFormed d
  | .fbne _ d => disp22WellFormed d
  | .fblg _ d => disp22WellFormed d
  | .fbul _ d => disp22WellFormed d
  | .fbl _ d => disp22WellFormed d
  | .fbug _ d => disp22WellFormed d
  | .fbg _ d => disp22WellFormed d
  | .fbu _ d => disp22WellFormed d
  | .fba _ d => disp22WellFormed d
  | .fbe _ d => disp22WellFormed d
  | .fbue _ d => disp22WellFormed d
  | .fbge _ d => disp22WellFormed d
  | .fbuge _ d => disp22WellFormed d
  | .fble _ d => disp22WellFormed d
  | .fbule _ d => disp22WellFormed d
  | .fbo _ d => disp22WellFormed d
  | .cbn _ d => disp22WellFormed d
  | .cb123 _ d => disp22WellFormed d
  | .cb12 _ d => disp22WellFormed d
  | .cb13 _ d => disp22WellFormed d
  | .cb1 _ d => disp22WellFormed d
  | .cb23 _ d => disp22WellFormed d
  | .cb2 _ d => disp22WellFormed d
  | .cb3 _ d => disp22WellFormed d
  | .cba _ d => disp22WellFormed d
  | .cb0 _ d => disp22WellFormed d
  | .cb03 _ d => disp22WellFormed d
  | .cb02 _ d => disp22WellFormed d
  | .cb023 _ d => disp22WellFormed d
  | .cb01 _ d => disp22WellFormed d
  | .cb013 _ d => disp22WellFormed d
  | .cb012 _ d => disp22WellFormed d
  | .call _ => true
  | .jmpl _ _ o => o.wellFormed
  | .rett _ o => o.wellFormed
  | .tn _ o => o.wellFormed
  | .te _ o => o.wellFormed
  | .tle _ o => o.wellFormed
  | .tl _ o => o.wellFormed
  | .tleu _ o => o.wellFormed
  | .tcs _ o => o.wellFormed
  | .tneg _ o => o.wellFormed
  | .tvs _ o => o.wellFormed
  | .ta _ o => o.wellFormed
  | .tne _ o => o.wellFormed
  | .tg _ o => o.wellFormed
  | .tge _ o => o.wellFormed
  | .tgu _ o => o.wellFormed
  | .tcc _ o => o.wellFormed
  | .tpos _ o => o.wellFormed
  | .tvc _ o => o.wellFormed
  | .save _ _ o => o.wellFormed
  | .restore _ _ o => o.wellFormed
  | .rdy _ => true
  | .rdpsr _ => true
  | .rdwim _ => true
  | .rdtbr _ => true
  | .wry _ o => o.wellFormed
  | .wrpsr _ o => o.wellFormed
  | .wrwim _ o => o.wellFormed
  | .wrtbr _ o => o.wellFormed
  | .iflush _ o => o.wellFormed
  | .unimp _ => true
  | .fmovs _ _ _ => true
  | .fnegs _ _ _ => true
  | .fabss _ _ _ => true
  | .fsqrts _ _ _ => true
  | .fsqrtd _ _ _ => true
  | .fsqrtx _ _ _ => true
  | .fadds _ _ _ => true
  | .faddd _ _ _ => true
  | .faddx _ _ _ => true
  | .fsubs _ _ _ => true
  | .fsubd _ _ _ => true
  | .fsubx _ _ _ => true
  | .fmuls _ _ _ => true
  | .fmuld _ _ _ => true
  | .fmulx _ _ _ => true
  | .fdivs _ _ _ => true
  | .fdivd _ _ _ => true
  | .fdivx _ _ _ => true
  | .fitos _ _ _ => true
  | .fdtos _ _ _ => true
  | .fxtos _ _ _ => true
  | .fitod _ _ _ => true
  | .fstod _ _ _ => true
  | .fxtod _ _ _ => true
  | .fitox _ _ _ => true
  | .fstox _ _ _ => true
  | .fdtox _ _ _ => true
  | .fstoi _ _ _ => true
  | .fdtoi _ _ _ => true
  | .fxtoi _ _ _ => true
  | .fcmps _ _ _ => true
  | .fcmpd _ _ _ => true
  | .fcmpx _ _ _ => true
  | .fcmpes _ _ _ => true
  | .fcmped _ _ _ => true
  | .fcmpex _ _ _ => true
  | .cpop1 _ _ _ _ => true
  | .cpop2 _ _ _ _ => true

end Sys2Proof
end

