-- ==== Sys2Proof/Decode.lean ====
section
/-! DEFINITION. The decoder, total on any word and any bytes, and the encoder (30_encoding.md). -/
namespace Sys2Proof

/-! ## Fields (R82) -/

/-- `op`, bits 31:30. -/
def opField (w : Word) : Nat := (w.extractLsb' 30 2).toNat
/-- `rd`, bits 29:25. -/
def rdField (w : Word) : Reg := w.extractLsb' 25 5
/-- `a`, bit 29. -/
def annulField (w : Word) : Bool := w.getLsbD 29
/-- `cond`, bits 28:25. -/
def condField (w : Word) : Nat := (w.extractLsb' 25 4).toNat
/-- `op2`, bits 24:22. -/
def op2Field (w : Word) : Nat := (w.extractLsb' 22 3).toNat
/-- `op3`, bits 24:19. -/
def op3Field (w : Word) : Nat := (w.extractLsb' 19 6).toNat
/-- `rs1`, bits 18:14. -/
def rs1Field (w : Word) : Reg := w.extractLsb' 14 5
/-- `i`, bit 13. -/
def iField (w : Word) : Bool := w.getLsbD 13
/-- `asi`, bits 12:5. -/
def asiField (w : Word) : Asi := w.extractLsb' 5 8
/-- `opf` or `opc`, bits 13:5. -/
def opfField (w : Word) : BitVec 9 := w.extractLsb' 5 9
/-- `rs2`, bits 4:0. -/
def rs2Field (w : Word) : Reg := w.extractLsb' 0 5
/-- `simm13`, bits 12:0, sign-extended. -/
def simm13Field (w : Word) : Int := (w.extractLsb' 0 13).toInt
/-- `disp22`, bits 21:0, sign-extended. -/
def disp22Field (w : Word) : Int := (w.extractLsb' 0 22).toInt
/-- `imm22` and `const22`, bits 21:0. -/
def imm22Field (w : Word) : BitVec 22 := w.extractLsb' 0 22
/-- `disp30`, bits 29:0. -/
def disp30Field (w : Word) : BitVec 30 := w.extractLsb' 0 30

/-- The second operand by the i bit (R85). -/
def operand2Field (w : Word) : RegOrImm :=
  if iField w then .imm (simm13Field w) else .reg (rs2Field w)

/-- The shift count by the i bit; bits 12:5 have no effect (R83). -/
def countField (w : Word) : ShiftCount :=
  if iField w then .imm (rs2Field w) else .reg (rs2Field w)

/-! ## The decoder -/

/-- Why a word is no instruction of the table (R94). -/
inductive Reject where
  /-- A reserved op2 or op3 (R87, R89, R90): the step takes illegal_instruction. -/
  | reserved
  /-- An alternate-space form with i = 1 (40_load_store.md R104): the step takes illegal_instruction. -/
  | alternateImmediate
  /-- FPop1 or FPop2 with an opf of no row (R91): the step runs it as an unimplemented FPop (44_floating_point.md R363). -/
  | unassignedFpop
  /-- Not four bytes. -/
  | notFourBytes
deriving DecidableEq, Repr

/-- What a word stands for. -/
inductive Decoded where
  | instr (i : Instr)
  | reject (r : Reject)
deriving DecidableEq, Repr

/-- Bicc by cond (R93). -/
def decodeBicc (w : Word) : Decoded :=
  match condField w with
  | 0x0 => .instr (.bn (annulField w) (disp22Field w))
  | 0x1 => .instr (.be (annulField w) (disp22Field w))
  | 0x2 => .instr (.ble (annulField w) (disp22Field w))
  | 0x3 => .instr (.bl (annulField w) (disp22Field w))
  | 0x4 => .instr (.bleu (annulField w) (disp22Field w))
  | 0x5 => .instr (.bcs (annulField w) (disp22Field w))
  | 0x6 => .instr (.bneg (annulField w) (disp22Field w))
  | 0x7 => .instr (.bvs (annulField w) (disp22Field w))
  | 0x8 => .instr (.ba (annulField w) (disp22Field w))
  | 0x9 => .instr (.bne (annulField w) (disp22Field w))
  | 0xa => .instr (.bg (annulField w) (disp22Field w))
  | 0xb => .instr (.bge (annulField w) (disp22Field w))
  | 0xc => .instr (.bgu (annulField w) (disp22Field w))
  | 0xd => .instr (.bcc (annulField w) (disp22Field w))
  | 0xe => .instr (.bpos (annulField w) (disp22Field w))
  | 0xf => .instr (.bvc (annulField w) (disp22Field w))
  | _ => .reject .reserved

/-- FBfcc by cond (R93). -/
def decodeFBfcc (w : Word) : Decoded :=
  match condField w with
  | 0x0 => .instr (.fbn (annulField w) (disp22Field w))
  | 0x1 => .instr (.fbne (annulField w) (disp22Field w))
  | 0x2 => .instr (.fblg (annulField w) (disp22Field w))
  | 0x3 => .instr (.fbul (annulField w) (disp22Field w))
  | 0x4 => .instr (.fbl (annulField w) (disp22Field w))
  | 0x5 => .instr (.fbug (annulField w) (disp22Field w))
  | 0x6 => .instr (.fbg (annulField w) (disp22Field w))
  | 0x7 => .instr (.fbu (annulField w) (disp22Field w))
  | 0x8 => .instr (.fba (annulField w) (disp22Field w))
  | 0x9 => .instr (.fbe (annulField w) (disp22Field w))
  | 0xa => .instr (.fbue (annulField w) (disp22Field w))
  | 0xb => .instr (.fbge (annulField w) (disp22Field w))
  | 0xc => .instr (.fbuge (annulField w) (disp22Field w))
  | 0xd => .instr (.fble (annulField w) (disp22Field w))
  | 0xe => .instr (.fbule (annulField w) (disp22Field w))
  | 0xf => .instr (.fbo (annulField w) (disp22Field w))
  | _ => .reject .reserved

/-- CBccc by cond (R93). -/
def decodeCBccc (w : Word) : Decoded :=
  match condField w with
  | 0x0 => .instr (.cbn (annulField w) (disp22Field w))
  | 0x1 => .instr (.cb123 (annulField w) (disp22Field w))
  | 0x2 => .instr (.cb12 (annulField w) (disp22Field w))
  | 0x3 => .instr (.cb13 (annulField w) (disp22Field w))
  | 0x4 => .instr (.cb1 (annulField w) (disp22Field w))
  | 0x5 => .instr (.cb23 (annulField w) (disp22Field w))
  | 0x6 => .instr (.cb2 (annulField w) (disp22Field w))
  | 0x7 => .instr (.cb3 (annulField w) (disp22Field w))
  | 0x8 => .instr (.cba (annulField w) (disp22Field w))
  | 0x9 => .instr (.cb0 (annulField w) (disp22Field w))
  | 0xa => .instr (.cb03 (annulField w) (disp22Field w))
  | 0xb => .instr (.cb02 (annulField w) (disp22Field w))
  | 0xc => .instr (.cb023 (annulField w) (disp22Field w))
  | 0xd => .instr (.cb01 (annulField w) (disp22Field w))
  | 0xe => .instr (.cb013 (annulField w) (disp22Field w))
  | 0xf => .instr (.cb012 (annulField w) (disp22Field w))
  | _ => .reject .reserved

/-- Ticc by cond (R93). -/
def decodeTicc (w : Word) : Decoded :=
  match condField w with
  | 0x0 => .instr (.tn (rs1Field w) (operand2Field w))
  | 0x1 => .instr (.te (rs1Field w) (operand2Field w))
  | 0x2 => .instr (.tle (rs1Field w) (operand2Field w))
  | 0x3 => .instr (.tl (rs1Field w) (operand2Field w))
  | 0x4 => .instr (.tleu (rs1Field w) (operand2Field w))
  | 0x5 => .instr (.tcs (rs1Field w) (operand2Field w))
  | 0x6 => .instr (.tneg (rs1Field w) (operand2Field w))
  | 0x7 => .instr (.tvs (rs1Field w) (operand2Field w))
  | 0x8 => .instr (.ta (rs1Field w) (operand2Field w))
  | 0x9 => .instr (.tne (rs1Field w) (operand2Field w))
  | 0xa => .instr (.tg (rs1Field w) (operand2Field w))
  | 0xb => .instr (.tge (rs1Field w) (operand2Field w))
  | 0xc => .instr (.tgu (rs1Field w) (operand2Field w))
  | 0xd => .instr (.tcc (rs1Field w) (operand2Field w))
  | 0xe => .instr (.tpos (rs1Field w) (operand2Field w))
  | 0xf => .instr (.tvc (rs1Field w) (operand2Field w))
  | _ => .reject .reserved

/-- FPop1 by opf (R91). -/
def decodeFPop1 (w : Word) : Decoded :=
  match (opfField w).toNat with
  | 0x001 => .instr (.fmovs (rdField w) (rs1Field w) (rs2Field w))
  | 0x005 => .instr (.fnegs (rdField w) (rs1Field w) (rs2Field w))
  | 0x009 => .instr (.fabss (rdField w) (rs1Field w) (rs2Field w))
  | 0x029 => .instr (.fsqrts (rdField w) (rs1Field w) (rs2Field w))
  | 0x02a => .instr (.fsqrtd (rdField w) (rs1Field w) (rs2Field w))
  | 0x02b => .instr (.fsqrtx (rdField w) (rs1Field w) (rs2Field w))
  | 0x041 => .instr (.fadds (rdField w) (rs1Field w) (rs2Field w))
  | 0x042 => .instr (.faddd (rdField w) (rs1Field w) (rs2Field w))
  | 0x043 => .instr (.faddx (rdField w) (rs1Field w) (rs2Field w))
  | 0x045 => .instr (.fsubs (rdField w) (rs1Field w) (rs2Field w))
  | 0x046 => .instr (.fsubd (rdField w) (rs1Field w) (rs2Field w))
  | 0x047 => .instr (.fsubx (rdField w) (rs1Field w) (rs2Field w))
  | 0x049 => .instr (.fmuls (rdField w) (rs1Field w) (rs2Field w))
  | 0x04a => .instr (.fmuld (rdField w) (rs1Field w) (rs2Field w))
  | 0x04b => .instr (.fmulx (rdField w) (rs1Field w) (rs2Field w))
  | 0x04d => .instr (.fdivs (rdField w) (rs1Field w) (rs2Field w))
  | 0x04e => .instr (.fdivd (rdField w) (rs1Field w) (rs2Field w))
  | 0x04f => .instr (.fdivx (rdField w) (rs1Field w) (rs2Field w))
  | 0x0c4 => .instr (.fitos (rdField w) (rs1Field w) (rs2Field w))
  | 0x0c6 => .instr (.fdtos (rdField w) (rs1Field w) (rs2Field w))
  | 0x0c7 => .instr (.fxtos (rdField w) (rs1Field w) (rs2Field w))
  | 0x0c8 => .instr (.fitod (rdField w) (rs1Field w) (rs2Field w))
  | 0x0c9 => .instr (.fstod (rdField w) (rs1Field w) (rs2Field w))
  | 0x0cb => .instr (.fxtod (rdField w) (rs1Field w) (rs2Field w))
  | 0x0cc => .instr (.fitox (rdField w) (rs1Field w) (rs2Field w))
  | 0x0cd => .instr (.fstox (rdField w) (rs1Field w) (rs2Field w))
  | 0x0ce => .instr (.fdtox (rdField w) (rs1Field w) (rs2Field w))
  | 0x0d1 => .instr (.fstoi (rdField w) (rs1Field w) (rs2Field w))
  | 0x0d2 => .instr (.fdtoi (rdField w) (rs1Field w) (rs2Field w))
  | 0x0d3 => .instr (.fxtoi (rdField w) (rs1Field w) (rs2Field w))
  | _ => .reject .unassignedFpop

/-- FPop2 by opf (R91). -/
def decodeFPop2 (w : Word) : Decoded :=
  match (opfField w).toNat with
  | 0x051 => .instr (.fcmps (rdField w) (rs1Field w) (rs2Field w))
  | 0x052 => .instr (.fcmpd (rdField w) (rs1Field w) (rs2Field w))
  | 0x053 => .instr (.fcmpx (rdField w) (rs1Field w) (rs2Field w))
  | 0x055 => .instr (.fcmpes (rdField w) (rs1Field w) (rs2Field w))
  | 0x056 => .instr (.fcmped (rdField w) (rs1Field w) (rs2Field w))
  | 0x057 => .instr (.fcmpex (rdField w) (rs1Field w) (rs2Field w))
  | _ => .reject .unassignedFpop

/-- Format 2, op = 00, by op2 (R87). -/
def decodeFormat2 (w : Word) : Decoded :=
  match op2Field w with
  | 0 => .instr (.unimp (imm22Field w))
  | 2 => decodeBicc w
  | 4 => .instr (.sethi (rdField w) (imm22Field w))
  | 6 => decodeFBfcc w
  | 7 => decodeCBccc w
  | _ => .reject .reserved

/-- Format 3, op = 10, by op3 (R89). -/
def decodeFormat3Arith (w : Word) : Decoded :=
  match op3Field w with
  | 0x00 => .instr (.add (rdField w) (rs1Field w) (operand2Field w))
  | 0x01 => .instr (.and (rdField w) (rs1Field w) (operand2Field w))
  | 0x02 => .instr (.or (rdField w) (rs1Field w) (operand2Field w))
  | 0x03 => .instr (.xor (rdField w) (rs1Field w) (operand2Field w))
  | 0x04 => .instr (.sub (rdField w) (rs1Field w) (operand2Field w))
  | 0x05 => .instr (.andn (rdField w) (rs1Field w) (operand2Field w))
  | 0x06 => .instr (.orn (rdField w) (rs1Field w) (operand2Field w))
  | 0x07 => .instr (.xnor (rdField w) (rs1Field w) (operand2Field w))
  | 0x08 => .instr (.addx (rdField w) (rs1Field w) (operand2Field w))
  | 0x0c => .instr (.subx (rdField w) (rs1Field w) (operand2Field w))
  | 0x10 => .instr (.addcc (rdField w) (rs1Field w) (operand2Field w))
  | 0x11 => .instr (.andcc (rdField w) (rs1Field w) (operand2Field w))
  | 0x12 => .instr (.orcc (rdField w) (rs1Field w) (operand2Field w))
  | 0x13 => .instr (.xorcc (rdField w) (rs1Field w) (operand2Field w))
  | 0x14 => .instr (.subcc (rdField w) (rs1Field w) (operand2Field w))
  | 0x15 => .instr (.andncc (rdField w) (rs1Field w) (operand2Field w))
  | 0x16 => .instr (.orncc (rdField w) (rs1Field w) (operand2Field w))
  | 0x17 => .instr (.xnorcc (rdField w) (rs1Field w) (operand2Field w))
  | 0x18 => .instr (.addxcc (rdField w) (rs1Field w) (operand2Field w))
  | 0x1c => .instr (.subxcc (rdField w) (rs1Field w) (operand2Field w))
  | 0x20 => .instr (.taddcc (rdField w) (rs1Field w) (operand2Field w))
  | 0x21 => .instr (.tsubcc (rdField w) (rs1Field w) (operand2Field w))
  | 0x22 => .instr (.taddcctv (rdField w) (rs1Field w) (operand2Field w))
  | 0x23 => .instr (.tsubcctv (rdField w) (rs1Field w) (operand2Field w))
  | 0x24 => .instr (.mulscc (rdField w) (rs1Field w) (operand2Field w))
  | 0x25 => .instr (.sll (rdField w) (rs1Field w) (countField w))
  | 0x26 => .instr (.srl (rdField w) (rs1Field w) (countField w))
  | 0x27 => .instr (.sra (rdField w) (rs1Field w) (countField w))
  | 0x28 => .instr (.rdy (rdField w))
  | 0x29 => .instr (.rdpsr (rdField w))
  | 0x2a => .instr (.rdwim (rdField w))
  | 0x2b => .instr (.rdtbr (rdField w))
  | 0x30 => .instr (.wry (rs1Field w) (operand2Field w))
  | 0x31 => .instr (.wrpsr (rs1Field w) (operand2Field w))
  | 0x32 => .instr (.wrwim (rs1Field w) (operand2Field w))
  | 0x33 => .instr (.wrtbr (rs1Field w) (operand2Field w))
  | 0x34 => decodeFPop1 w
  | 0x35 => decodeFPop2 w
  | 0x36 => .instr (.cpop1 (rdField w) (rs1Field w) (opfField w) (rs2Field w))
  | 0x37 => .instr (.cpop2 (rdField w) (rs1Field w) (opfField w) (rs2Field w))
  | 0x38 => .instr (.jmpl (rdField w) (rs1Field w) (operand2Field w))
  | 0x39 => .instr (.rett (rs1Field w) (operand2Field w))
  | 0x3a => decodeTicc w
  | 0x3b => .instr (.iflush (rs1Field w) (operand2Field w))
  | 0x3c => .instr (.save (rdField w) (rs1Field w) (operand2Field w))
  | 0x3d => .instr (.restore (rdField w) (rs1Field w) (operand2Field w))
  | _ => .reject .reserved

/-- An alternate-space form: it has no immediate form (40_load_store.md R104). -/
def alternateForm (w : Word) (i : Instr) : Decoded :=
  if iField w then .reject .alternateImmediate else .instr i

/-- Format 3, op = 11, by op3 (R90). -/
def decodeFormat3Mem (w : Word) : Decoded :=
  match op3Field w with
  | 0x00 => .instr (.ld (rdField w) (rs1Field w) (operand2Field w))
  | 0x01 => .instr (.ldub (rdField w) (rs1Field w) (operand2Field w))
  | 0x02 => .instr (.lduh (rdField w) (rs1Field w) (operand2Field w))
  | 0x03 => .instr (.ldd (rdField w) (rs1Field w) (operand2Field w))
  | 0x04 => .instr (.st (rdField w) (rs1Field w) (operand2Field w))
  | 0x05 => .instr (.stb (rdField w) (rs1Field w) (operand2Field w))
  | 0x06 => .instr (.sth (rdField w) (rs1Field w) (operand2Field w))
  | 0x07 => .instr (.std (rdField w) (rs1Field w) (operand2Field w))
  | 0x09 => .instr (.ldsb (rdField w) (rs1Field w) (operand2Field w))
  | 0x0a => .instr (.ldsh (rdField w) (rs1Field w) (operand2Field w))
  | 0x0d => .instr (.ldstub (rdField w) (rs1Field w) (operand2Field w))
  | 0x0f => .instr (.swap (rdField w) (rs1Field w) (operand2Field w))
  | 0x10 => alternateForm w (.lda (rdField w) (rs1Field w) (rs2Field w) (asiField w))
  | 0x11 => alternateForm w (.lduba (rdField w) (rs1Field w) (rs2Field w) (asiField w))
  | 0x12 => alternateForm w (.lduha (rdField w) (rs1Field w) (rs2Field w) (asiField w))
  | 0x13 => alternateForm w (.ldda (rdField w) (rs1Field w) (rs2Field w) (asiField w))
  | 0x14 => alternateForm w (.sta (rdField w) (rs1Field w) (rs2Field w) (asiField w))
  | 0x15 => alternateForm w (.stba (rdField w) (rs1Field w) (rs2Field w) (asiField w))
  | 0x16 => alternateForm w (.stha (rdField w) (rs1Field w) (rs2Field w) (asiField w))
  | 0x17 => alternateForm w (.stda (rdField w) (rs1Field w) (rs2Field w) (asiField w))
  | 0x19 => alternateForm w (.ldsba (rdField w) (rs1Field w) (rs2Field w) (asiField w))
  | 0x1a => alternateForm w (.ldsha (rdField w) (rs1Field w) (rs2Field w) (asiField w))
  | 0x1d => alternateForm w (.ldstuba (rdField w) (rs1Field w) (rs2Field w) (asiField w))
  | 0x1f => alternateForm w (.swapa (rdField w) (rs1Field w) (rs2Field w) (asiField w))
  | 0x20 => .instr (.ldf (rdField w) (rs1Field w) (operand2Field w))
  | 0x21 => .instr (.ldfsr (rs1Field w) (operand2Field w))
  | 0x23 => .instr (.lddf (rdField w) (rs1Field w) (operand2Field w))
  | 0x24 => .instr (.stf (rdField w) (rs1Field w) (operand2Field w))
  | 0x25 => .instr (.stfsr (rs1Field w) (operand2Field w))
  | 0x26 => .instr (.stdfq (rs1Field w) (operand2Field w))
  | 0x27 => .instr (.stdf (rdField w) (rs1Field w) (operand2Field w))
  | 0x30 => .instr (.ldc (rdField w) (rs1Field w) (operand2Field w))
  | 0x31 => .instr (.ldcsr (rs1Field w) (operand2Field w))
  | 0x33 => .instr (.lddc (rdField w) (rs1Field w) (operand2Field w))
  | 0x34 => .instr (.stc (rdField w) (rs1Field w) (operand2Field w))
  | 0x35 => .instr (.stcsr (rs1Field w) (operand2Field w))
  | 0x36 => .instr (.stdcq (rs1Field w) (operand2Field w))
  | 0x37 => .instr (.stdc (rdField w) (rs1Field w) (operand2Field w))
  | _ => .reject .reserved

/-- Every word is an instruction or a named rejection (R86). -/
def decode (w : Word) : Decoded :=
  match opField w with
  | 0 => decodeFormat2 w
  | 1 => .instr (.call (disp30Field w))
  | 2 => decodeFormat3Arith w
  | _ => decodeFormat3Mem w

/-- The bytes of a word as the hardware stores them: big-endian (R80). -/
def wordBytes (w : Word) : List Byte :=
  [w.extractLsb' 24 8, w.extractLsb' 16 8, w.extractLsb' 8 8, w.extractLsb' 0 8]

/-- The instruction in four bytes, the byte at the lowest address first (R80). -/
def decodeBytes : List Byte → Decoded
  | [b0, b1, b2, b3] => decode (b0 ++ b1 ++ b2 ++ b3)
  | _ => .reject .notFourBytes

/-- The instruction the decoder reads from the bits `w`, numbered as spec/opcode_table.json numbers them. -/
def decodeTableWord (nbits w : Nat) : Option Instr :=
  match decodeBytes (wordBytes (BitVec.ofNat 32 (w % 2 ^ nbits))) with
  | .instr i => some i
  | .reject _ => none

/-! ## The encoder; an ignored field is written 0 (log 45) -/

/-- The low 14 bits, `i` and the second operand (R81, formats 3a and 3b). -/
def encodeOperand2 : RegOrImm → BitVec 14
  | .reg rs2 => 0#9 ++ rs2
  | .imm v => 1#1 ++ BitVec.ofInt 13 v

/-- The low 14 bits of a shift (R81, R83). -/
def encodeCount : ShiftCount → BitVec 14
  | .reg rs2 => 0#9 ++ rs2
  | .imm n => 1#1 ++ 0#8 ++ n

/-- Format 3 from its fields (R81). -/
def format3 (op : BitVec 2) (rd : Reg) (op3 : BitVec 6) (rs1 : Reg) (low : BitVec 14) : Word :=
  op ++ rd ++ op3 ++ rs1 ++ low

/-- Format 2a (R81). -/
def format2a (rd : Reg) (op2 : BitVec 3) (imm22 : BitVec 22) : Word := 0#2 ++ rd ++ op2 ++ imm22

/-- Format 2b (R81). -/
def format2b (annul : Bool) (cond : BitVec 4) (op2 : BitVec 3) (disp22 : Int) : Word :=
  0#2 ++ BitVec.ofBool annul ++ cond ++ op2 ++ BitVec.ofInt 22 disp22

/-- The word of an instruction (R81, R87 to R93). -/
def encode : Instr → Word
  | .ldsb rd rs1 o => format3 3#2 rd 0x09#6 rs1 (encodeOperand2 o)
  | .ldsh rd rs1 o => format3 3#2 rd 0x0a#6 rs1 (encodeOperand2 o)
  | .ldub rd rs1 o => format3 3#2 rd 0x01#6 rs1 (encodeOperand2 o)
  | .lduh rd rs1 o => format3 3#2 rd 0x02#6 rs1 (encodeOperand2 o)
  | .ld rd rs1 o => format3 3#2 rd 0x00#6 rs1 (encodeOperand2 o)
  | .ldd rd rs1 o => format3 3#2 rd 0x03#6 rs1 (encodeOperand2 o)
  | .ldsba rd rs1 rs2 asi => format3 3#2 rd 0x19#6 rs1 (0#1 ++ asi ++ rs2)
  | .ldsha rd rs1 rs2 asi => format3 3#2 rd 0x1a#6 rs1 (0#1 ++ asi ++ rs2)
  | .lduba rd rs1 rs2 asi => format3 3#2 rd 0x11#6 rs1 (0#1 ++ asi ++ rs2)
  | .lduha rd rs1 rs2 asi => format3 3#2 rd 0x12#6 rs1 (0#1 ++ asi ++ rs2)
  | .lda rd rs1 rs2 asi => format3 3#2 rd 0x10#6 rs1 (0#1 ++ asi ++ rs2)
  | .ldda rd rs1 rs2 asi => format3 3#2 rd 0x13#6 rs1 (0#1 ++ asi ++ rs2)
  | .stb rd rs1 o => format3 3#2 rd 0x05#6 rs1 (encodeOperand2 o)
  | .sth rd rs1 o => format3 3#2 rd 0x06#6 rs1 (encodeOperand2 o)
  | .st rd rs1 o => format3 3#2 rd 0x04#6 rs1 (encodeOperand2 o)
  | .std rd rs1 o => format3 3#2 rd 0x07#6 rs1 (encodeOperand2 o)
  | .stba rd rs1 rs2 asi => format3 3#2 rd 0x15#6 rs1 (0#1 ++ asi ++ rs2)
  | .stha rd rs1 rs2 asi => format3 3#2 rd 0x16#6 rs1 (0#1 ++ asi ++ rs2)
  | .sta rd rs1 rs2 asi => format3 3#2 rd 0x14#6 rs1 (0#1 ++ asi ++ rs2)
  | .stda rd rs1 rs2 asi => format3 3#2 rd 0x17#6 rs1 (0#1 ++ asi ++ rs2)
  | .ldf rd rs1 o => format3 3#2 rd 0x20#6 rs1 (encodeOperand2 o)
  | .lddf rd rs1 o => format3 3#2 rd 0x23#6 rs1 (encodeOperand2 o)
  | .ldfsr rs1 o => format3 3#2 0#5 0x21#6 rs1 (encodeOperand2 o)
  | .stf rd rs1 o => format3 3#2 rd 0x24#6 rs1 (encodeOperand2 o)
  | .stdf rd rs1 o => format3 3#2 rd 0x27#6 rs1 (encodeOperand2 o)
  | .stfsr rs1 o => format3 3#2 0#5 0x25#6 rs1 (encodeOperand2 o)
  | .stdfq rs1 o => format3 3#2 0#5 0x26#6 rs1 (encodeOperand2 o)
  | .ldstub rd rs1 o => format3 3#2 rd 0x0d#6 rs1 (encodeOperand2 o)
  | .ldstuba rd rs1 rs2 asi => format3 3#2 rd 0x1d#6 rs1 (0#1 ++ asi ++ rs2)
  | .swap rd rs1 o => format3 3#2 rd 0x0f#6 rs1 (encodeOperand2 o)
  | .swapa rd rs1 rs2 asi => format3 3#2 rd 0x1f#6 rs1 (0#1 ++ asi ++ rs2)
  | .ldc rd rs1 o => format3 3#2 rd 0x30#6 rs1 (encodeOperand2 o)
  | .lddc rd rs1 o => format3 3#2 rd 0x33#6 rs1 (encodeOperand2 o)
  | .ldcsr rs1 o => format3 3#2 0#5 0x31#6 rs1 (encodeOperand2 o)
  | .stc rd rs1 o => format3 3#2 rd 0x34#6 rs1 (encodeOperand2 o)
  | .stdc rd rs1 o => format3 3#2 rd 0x37#6 rs1 (encodeOperand2 o)
  | .stcsr rs1 o => format3 3#2 0#5 0x35#6 rs1 (encodeOperand2 o)
  | .stdcq rs1 o => format3 3#2 0#5 0x36#6 rs1 (encodeOperand2 o)
  | .add rd rs1 o => format3 2#2 rd 0x00#6 rs1 (encodeOperand2 o)
  | .addcc rd rs1 o => format3 2#2 rd 0x10#6 rs1 (encodeOperand2 o)
  | .addx rd rs1 o => format3 2#2 rd 0x08#6 rs1 (encodeOperand2 o)
  | .addxcc rd rs1 o => format3 2#2 rd 0x18#6 rs1 (encodeOperand2 o)
  | .sub rd rs1 o => format3 2#2 rd 0x04#6 rs1 (encodeOperand2 o)
  | .subcc rd rs1 o => format3 2#2 rd 0x14#6 rs1 (encodeOperand2 o)
  | .subx rd rs1 o => format3 2#2 rd 0x0c#6 rs1 (encodeOperand2 o)
  | .subxcc rd rs1 o => format3 2#2 rd 0x1c#6 rs1 (encodeOperand2 o)
  | .taddcc rd rs1 o => format3 2#2 rd 0x20#6 rs1 (encodeOperand2 o)
  | .tsubcc rd rs1 o => format3 2#2 rd 0x21#6 rs1 (encodeOperand2 o)
  | .taddcctv rd rs1 o => format3 2#2 rd 0x22#6 rs1 (encodeOperand2 o)
  | .tsubcctv rd rs1 o => format3 2#2 rd 0x23#6 rs1 (encodeOperand2 o)
  | .mulscc rd rs1 o => format3 2#2 rd 0x24#6 rs1 (encodeOperand2 o)
  | .and rd rs1 o => format3 2#2 rd 0x01#6 rs1 (encodeOperand2 o)
  | .andcc rd rs1 o => format3 2#2 rd 0x11#6 rs1 (encodeOperand2 o)
  | .andn rd rs1 o => format3 2#2 rd 0x05#6 rs1 (encodeOperand2 o)
  | .andncc rd rs1 o => format3 2#2 rd 0x15#6 rs1 (encodeOperand2 o)
  | .or rd rs1 o => format3 2#2 rd 0x02#6 rs1 (encodeOperand2 o)
  | .orcc rd rs1 o => format3 2#2 rd 0x12#6 rs1 (encodeOperand2 o)
  | .orn rd rs1 o => format3 2#2 rd 0x06#6 rs1 (encodeOperand2 o)
  | .orncc rd rs1 o => format3 2#2 rd 0x16#6 rs1 (encodeOperand2 o)
  | .xor rd rs1 o => format3 2#2 rd 0x03#6 rs1 (encodeOperand2 o)
  | .xorcc rd rs1 o => format3 2#2 rd 0x13#6 rs1 (encodeOperand2 o)
  | .xnor rd rs1 o => format3 2#2 rd 0x07#6 rs1 (encodeOperand2 o)
  | .xnorcc rd rs1 o => format3 2#2 rd 0x17#6 rs1 (encodeOperand2 o)
  | .sethi rd v => format2a rd 4#3 v
  | .sll rd rs1 c => format3 2#2 rd 0x25#6 rs1 (encodeCount c)
  | .srl rd rs1 c => format3 2#2 rd 0x26#6 rs1 (encodeCount c)
  | .sra rd rs1 c => format3 2#2 rd 0x27#6 rs1 (encodeCount c)
  | .bn a d => format2b a 0#4 2#3 d
  | .be a d => format2b a 1#4 2#3 d
  | .ble a d => format2b a 2#4 2#3 d
  | .bl a d => format2b a 3#4 2#3 d
  | .bleu a d => format2b a 4#4 2#3 d
  | .bcs a d => format2b a 5#4 2#3 d
  | .bneg a d => format2b a 6#4 2#3 d
  | .bvs a d => format2b a 7#4 2#3 d
  | .ba a d => format2b a 8#4 2#3 d
  | .bne a d => format2b a 9#4 2#3 d
  | .bg a d => format2b a 10#4 2#3 d
  | .bge a d => format2b a 11#4 2#3 d
  | .bgu a d => format2b a 12#4 2#3 d
  | .bcc a d => format2b a 13#4 2#3 d
  | .bpos a d => format2b a 14#4 2#3 d
  | .bvc a d => format2b a 15#4 2#3 d
  | .fbn a d => format2b a 0#4 6#3 d
  | .fbne a d => format2b a 1#4 6#3 d
  | .fblg a d => format2b a 2#4 6#3 d
  | .fbul a d => format2b a 3#4 6#3 d
  | .fbl a d => format2b a 4#4 6#3 d
  | .fbug a d => format2b a 5#4 6#3 d
  | .fbg a d => format2b a 6#4 6#3 d
  | .fbu a d => format2b a 7#4 6#3 d
  | .fba a d => format2b a 8#4 6#3 d
  | .fbe a d => format2b a 9#4 6#3 d
  | .fbue a d => format2b a 10#4 6#3 d
  | .fbge a d => format2b a 11#4 6#3 d
  | .fbuge a d => format2b a 12#4 6#3 d
  | .fble a d => format2b a 13#4 6#3 d
  | .fbule a d => format2b a 14#4 6#3 d
  | .fbo a d => format2b a 15#4 6#3 d
  | .cbn a d => format2b a 0#4 7#3 d
  | .cb123 a d => format2b a 1#4 7#3 d
  | .cb12 a d => format2b a 2#4 7#3 d
  | .cb13 a d => format2b a 3#4 7#3 d
  | .cb1 a d => format2b a 4#4 7#3 d
  | .cb23 a d => format2b a 5#4 7#3 d
  | .cb2 a d => format2b a 6#4 7#3 d
  | .cb3 a d => format2b a 7#4 7#3 d
  | .cba a d => format2b a 8#4 7#3 d
  | .cb0 a d => format2b a 9#4 7#3 d
  | .cb03 a d => format2b a 10#4 7#3 d
  | .cb02 a d => format2b a 11#4 7#3 d
  | .cb023 a d => format2b a 12#4 7#3 d
  | .cb01 a d => format2b a 13#4 7#3 d
  | .cb013 a d => format2b a 14#4 7#3 d
  | .cb012 a d => format2b a 15#4 7#3 d
  | .call d => 1#2 ++ d
  | .jmpl rd rs1 o => format3 2#2 rd 0x38#6 rs1 (encodeOperand2 o)
  | .rett rs1 o => format3 2#2 0#5 0x39#6 rs1 (encodeOperand2 o)
  | .tn rs1 o => format3 2#2 0#5 0x3a#6 rs1 (encodeOperand2 o)
  | .te rs1 o => format3 2#2 1#5 0x3a#6 rs1 (encodeOperand2 o)
  | .tle rs1 o => format3 2#2 2#5 0x3a#6 rs1 (encodeOperand2 o)
  | .tl rs1 o => format3 2#2 3#5 0x3a#6 rs1 (encodeOperand2 o)
  | .tleu rs1 o => format3 2#2 4#5 0x3a#6 rs1 (encodeOperand2 o)
  | .tcs rs1 o => format3 2#2 5#5 0x3a#6 rs1 (encodeOperand2 o)
  | .tneg rs1 o => format3 2#2 6#5 0x3a#6 rs1 (encodeOperand2 o)
  | .tvs rs1 o => format3 2#2 7#5 0x3a#6 rs1 (encodeOperand2 o)
  | .ta rs1 o => format3 2#2 8#5 0x3a#6 rs1 (encodeOperand2 o)
  | .tne rs1 o => format3 2#2 9#5 0x3a#6 rs1 (encodeOperand2 o)
  | .tg rs1 o => format3 2#2 10#5 0x3a#6 rs1 (encodeOperand2 o)
  | .tge rs1 o => format3 2#2 11#5 0x3a#6 rs1 (encodeOperand2 o)
  | .tgu rs1 o => format3 2#2 12#5 0x3a#6 rs1 (encodeOperand2 o)
  | .tcc rs1 o => format3 2#2 13#5 0x3a#6 rs1 (encodeOperand2 o)
  | .tpos rs1 o => format3 2#2 14#5 0x3a#6 rs1 (encodeOperand2 o)
  | .tvc rs1 o => format3 2#2 15#5 0x3a#6 rs1 (encodeOperand2 o)
  | .save rd rs1 o => format3 2#2 rd 0x3c#6 rs1 (encodeOperand2 o)
  | .restore rd rs1 o => format3 2#2 rd 0x3d#6 rs1 (encodeOperand2 o)
  | .rdy rd => format3 2#2 rd 0x28#6 0#5 0#14
  | .rdpsr rd => format3 2#2 rd 0x29#6 0#5 0#14
  | .rdwim rd => format3 2#2 rd 0x2a#6 0#5 0#14
  | .rdtbr rd => format3 2#2 rd 0x2b#6 0#5 0#14
  | .wry rs1 o => format3 2#2 0#5 0x30#6 rs1 (encodeOperand2 o)
  | .wrpsr rs1 o => format3 2#2 0#5 0x31#6 rs1 (encodeOperand2 o)
  | .wrwim rs1 o => format3 2#2 0#5 0x32#6 rs1 (encodeOperand2 o)
  | .wrtbr rs1 o => format3 2#2 0#5 0x33#6 rs1 (encodeOperand2 o)
  | .iflush rs1 o => format3 2#2 0#5 0x3b#6 rs1 (encodeOperand2 o)
  | .unimp v => format2a 0#5 0#3 v
  | .fmovs rd rs1 rs2 => format3 2#2 rd 0x34#6 rs1 (0x001#9 ++ rs2)
  | .fnegs rd rs1 rs2 => format3 2#2 rd 0x34#6 rs1 (0x005#9 ++ rs2)
  | .fabss rd rs1 rs2 => format3 2#2 rd 0x34#6 rs1 (0x009#9 ++ rs2)
  | .fsqrts rd rs1 rs2 => format3 2#2 rd 0x34#6 rs1 (0x029#9 ++ rs2)
  | .fsqrtd rd rs1 rs2 => format3 2#2 rd 0x34#6 rs1 (0x02a#9 ++ rs2)
  | .fsqrtx rd rs1 rs2 => format3 2#2 rd 0x34#6 rs1 (0x02b#9 ++ rs2)
  | .fadds rd rs1 rs2 => format3 2#2 rd 0x34#6 rs1 (0x041#9 ++ rs2)
  | .faddd rd rs1 rs2 => format3 2#2 rd 0x34#6 rs1 (0x042#9 ++ rs2)
  | .faddx rd rs1 rs2 => format3 2#2 rd 0x34#6 rs1 (0x043#9 ++ rs2)
  | .fsubs rd rs1 rs2 => format3 2#2 rd 0x34#6 rs1 (0x045#9 ++ rs2)
  | .fsubd rd rs1 rs2 => format3 2#2 rd 0x34#6 rs1 (0x046#9 ++ rs2)
  | .fsubx rd rs1 rs2 => format3 2#2 rd 0x34#6 rs1 (0x047#9 ++ rs2)
  | .fmuls rd rs1 rs2 => format3 2#2 rd 0x34#6 rs1 (0x049#9 ++ rs2)
  | .fmuld rd rs1 rs2 => format3 2#2 rd 0x34#6 rs1 (0x04a#9 ++ rs2)
  | .fmulx rd rs1 rs2 => format3 2#2 rd 0x34#6 rs1 (0x04b#9 ++ rs2)
  | .fdivs rd rs1 rs2 => format3 2#2 rd 0x34#6 rs1 (0x04d#9 ++ rs2)
  | .fdivd rd rs1 rs2 => format3 2#2 rd 0x34#6 rs1 (0x04e#9 ++ rs2)
  | .fdivx rd rs1 rs2 => format3 2#2 rd 0x34#6 rs1 (0x04f#9 ++ rs2)
  | .fitos rd rs1 rs2 => format3 2#2 rd 0x34#6 rs1 (0x0c4#9 ++ rs2)
  | .fdtos rd rs1 rs2 => format3 2#2 rd 0x34#6 rs1 (0x0c6#9 ++ rs2)
  | .fxtos rd rs1 rs2 => format3 2#2 rd 0x34#6 rs1 (0x0c7#9 ++ rs2)
  | .fitod rd rs1 rs2 => format3 2#2 rd 0x34#6 rs1 (0x0c8#9 ++ rs2)
  | .fstod rd rs1 rs2 => format3 2#2 rd 0x34#6 rs1 (0x0c9#9 ++ rs2)
  | .fxtod rd rs1 rs2 => format3 2#2 rd 0x34#6 rs1 (0x0cb#9 ++ rs2)
  | .fitox rd rs1 rs2 => format3 2#2 rd 0x34#6 rs1 (0x0cc#9 ++ rs2)
  | .fstox rd rs1 rs2 => format3 2#2 rd 0x34#6 rs1 (0x0cd#9 ++ rs2)
  | .fdtox rd rs1 rs2 => format3 2#2 rd 0x34#6 rs1 (0x0ce#9 ++ rs2)
  | .fstoi rd rs1 rs2 => format3 2#2 rd 0x34#6 rs1 (0x0d1#9 ++ rs2)
  | .fdtoi rd rs1 rs2 => format3 2#2 rd 0x34#6 rs1 (0x0d2#9 ++ rs2)
  | .fxtoi rd rs1 rs2 => format3 2#2 rd 0x34#6 rs1 (0x0d3#9 ++ rs2)
  | .fcmps rd rs1 rs2 => format3 2#2 rd 0x35#6 rs1 (0x051#9 ++ rs2)
  | .fcmpd rd rs1 rs2 => format3 2#2 rd 0x35#6 rs1 (0x052#9 ++ rs2)
  | .fcmpx rd rs1 rs2 => format3 2#2 rd 0x35#6 rs1 (0x053#9 ++ rs2)
  | .fcmpes rd rs1 rs2 => format3 2#2 rd 0x35#6 rs1 (0x055#9 ++ rs2)
  | .fcmped rd rs1 rs2 => format3 2#2 rd 0x35#6 rs1 (0x056#9 ++ rs2)
  | .fcmpex rd rs1 rs2 => format3 2#2 rd 0x35#6 rs1 (0x057#9 ++ rs2)
  | .cpop1 rd rs1 opc rs2 => format3 2#2 rd 0x36#6 rs1 (opc ++ rs2)
  | .cpop2 rd rs1 opc rs2 => format3 2#2 rd 0x37#6 rs1 (opc ++ rs2)

end Sys2Proof
end

