-- ==== Sys2Proof/Machine/Mmu.lean ====
section
/-! DEFINITION. The CMU's bus accesses, fault records, TLB and table walk (21_mmu_cache.md, 22_cmu_registers_faults_reset.md). -/
namespace Sys2Proof.Machine

/-! ## The System Control Register (22 R641, R642) -/

/-- SCR.BM, boot mode. -/
def Cmu.bm (c : Cmu) : Bool := c.scr.getLsbD 14
/-- SCR.CM, copy-back mode. -/
def Cmu.cm (c : Cmu) : Bool := c.scr.getLsbD 10
/-- SCR.CL, cache lock (CY7C604). -/
def Cmu.cl (c : Cmu) : Bool := c.scr.getLsbD 9
/-- SCR.CE, cache enable. -/
def Cmu.ce (c : Cmu) : Bool := c.scr.getLsbD 8
/-- SCR.MR, memory reflection (CY7C605). -/
def Cmu.mr (c : Cmu) : Bool := c.scr.getLsbD 11
/-- SCR.MCA, the multichip address (22 R654). -/
def Cmu.mca (c : Cmu) : BitVec 2 := c.scr.extractLsb' 22 2
/-- SCR.MCM, the multichip mask. -/
def Cmu.mcm (c : Cmu) : BitVec 2 := c.scr.extractLsb' 20 2
/-- SCR.MV, multichip valid. -/
def Cmu.mv (c : Cmu) : Bool := c.scr.getLsbD 19
/-- SCR.NF, no fault. -/
def Cmu.nf (c : Cmu) : Bool := c.scr.getLsbD 1
/-- SCR.ME, MMU enable. -/
def Cmu.me (c : Cmu) : Bool := c.scr.getLsbD 0
/-- CXR.CXN, the current context. -/
def Cmu.context (c : Cmu) : BitVec 12 := c.cxr.extractLsb' 0 12

/-- The CMU is a CY7C605. -/
def is605 (s : State) : Bool := s.plat.cmu = .cy7c605

/-- The state with another CMU. -/
def withCmu (s : State) (c : Cmu) : State := { s with cmu := c }

/-! ## The Mbus (22 R690 to R693) -/

/-- The error the Mbus answers to an access of `n` bytes at the physical address `pa`; a retry is invisible (22 R693,
log 26). -/
def busError (s : State) (write : Bool) (pa n : Nat) : Option BusError :=
  (s.plat.busFault.find? fun b =>
    (if write then b.onWrite else b.onRead) && decide (b.lo < pa + n) && decide (pa ≤ b.hi)).map BusFault.kind

/-- The bank of an access by its MBL signal (21 R611, log 42). -/
def mblBank (s : State) (mbl : Bool) : Nat := if mbl && s.plat.mblSeparate then 1 else 0

/-- Three bits UC, TO, BE of a bus error (22 R650, R693). -/
def errorBits : Option BusError → BitVec 3
  | none => 0
  | some .uncorrectable => 4
  | some .timeout => 2
  | some .bus => 1

/-- The asynchronous fault of a buffered write: recorded unless AFO is set (22 R653, R666). DESIGN CHOICE: it replaces
UC, TO and BE where they stand with AFO = 0, after a read of AFAR that cleared AFO or a store to AFSR; R653 and R666 do not say
whether it adds its bit to them (log 28). -/
def recordAsync (c : Cmu) (e : BusError) (pa : Nat) : Cmu :=
  if c.afsr.getLsbD 0 then c
  else { c with
    afsr := 0#19 ++ errorBits (some e) ++ 0#2 ++ BitVec.ofNat 4 (pa / 2 ^ 32) ++ 0#3 ++ 1#1
    afar := BitVec.ofNat 32 pa }

/-! ## The write buffers (21 R625, 22 R666) -/

/-- A buffer that holds a line of copy-back mode. -/
def WriteBuffer.isLine (b : WriteBuffer) : Bool := decide (b.bytes.length = 32)

/-- Whether a buffer holds one of the `n` bytes at a physical address. -/
def WriteBuffer.meets (b : WriteBuffer) (bank pa n : Nat) : Bool :=
  decide (b.bank = bank) && decide (b.pa < pa + n) && decide (pa < b.pa + b.bytes.length)

/-- The oldest buffer drains: its bytes reach memory, or a bus error loses them and is recorded as an asynchronous fault
(22 R666). The buffers drain in program order (92_eei_decisions.md D7, log 28). -/
def drainOne (s : State) : State :=
  match s.cmu.wbuf with
  | [] => s
  | b :: rest =>
    let s1 := withCmu s { s.cmu with wbuf := rest }
    match busError s true b.pa b.bytes.length with
    | some e => withCmu s1 (recordAsync s1.cmu e b.pa)
    | none => { s1 with mem := setBytes s.mem (memKey b.bank b.pa) b.bytes }

/-- The access waits until all buffers are empty (21 R625). -/
def drainAll (s : State) : State := s.cmu.wbuf.foldl (fun t _ => drainOne t) s

/-- The IU is held until there is room for a write of `n` bytes: a line and other data never share the buffers, and there are
four of them (21 R625). -/
def makeRoom (s : State) (n : Nat) : State :=
  if n = 32 || s.cmu.wbuf.any WriteBuffer.isLine then drainAll s
  else if s.cmu.wbuf.length < 4 then s
  else drainOne s

/-- A buffered write of bytes: it takes a buffer of its own and drains later (21 R625, log 28). -/
def busWrite (s : State) (bank pa : Nat) (bs : List Byte) : State :=
  let s1 := makeRoom s bs.length
  withCmu s1 { s1.cmu with wbuf := s1.cmu.wbuf ++ [{ bank := bank, pa := pa, bytes := bs }] }

/-- What memory will hold when the buffers have drained without an error. -/
def bufferedMem (s : State) : List Host.Cell :=
  s.cmu.wbuf.foldl (fun m b => setBytes m (memKey b.bank b.pa) b.bytes) s.mem

/-- Before an access to memory that is no cache miss and does not go through the buffers: it waits for them where one of them
holds bytes of it, since the IU's accesses are performed in program order (20_memory.md R78, DEDUCED), else it waits or passes
them, freely: the spec does not say (91 N21, log 28). -/
def settleRead (s : State) (bank pa n : Nat) : State :=
  if s.cmu.wbuf.any (fun b => b.meets bank pa n) || (!s.cmu.wbuf.isEmpty && drawBool s .cmuReadWaits) then drainAll s else s

/-- Before a table walk, which waits for the buffers or passes them, freely: the spec does not say (91 N21, log 28). -/
def settleWalk (s : State) : State := if !s.cmu.wbuf.isEmpty && drawBool s .cmuWalkWaits then drainAll s else s

/-! ## Synchronous faults (22 R660 to R664) -/

/-- A synchronous fault: its type FT, the table level where one is known, and the bus error where there is one. -/
structure SyncFault where
  ft : BitVec 3
  level : Option (BitVec 2)
  err : Option BusError
  cbt : Bool
deriving DecidableEq, Repr

/-- A fault with no bus error. -/
def syncFault (ft : BitVec 3) (level : Option (BitVec 2)) : SyncFault := { ft := ft, level := level, err := none, cbt := false }

/-- The word of an SFSR (22 R650). -/
def sfsrWord (cbt : Bool) (err : BitVec 3) (l : BitVec 2) (at' ft : BitVec 3) (fav ow : Bool) : Word :=
  0#18 ++ BitVec.ofBool cbt ++ err ++ l ++ at' ++ ft ++ BitVec.ofBool fav ++ BitVec.ofBool ow

/-- The three classes of a recorded fault (22 R664). -/
inductive FaultClass where
  | instruction
  | data
  | translate
deriving DecidableEq, Repr

/-- The class of a fault: FT = 4 is a translation fault, else AT tells an instruction from a data access (22 R664). -/
def faultClass (ft at' : BitVec 3) : FaultClass :=
  if ft = 4 then .translate else if at' = 2 || at' = 3 then .instruction else .data

/-- Table 4-16: whether the second fault is recorded, and OW (22 R664). `none` is no fault since SFSR was read. -/
def overwrite (first : Option FaultClass) (second : FaultClass) (secondAt : BitVec 3) : Bool × Bool :=
  match first, second with
  | none, _ => (true, false)
  | some .instruction, .instruction => (true, true)
  | some .instruction, .data => (true, false)
  | some .instruction, .translate => (true, secondAt = 2 || secondAt = 3)
  | some .data, .instruction => (false, false)
  | some .data, .data => (true, true)
  | some .data, .translate => (true, true)
  | some .translate, _ => (false, false)

/-- The fault on record in SFSR, if any: the first fault of Table 4-16. DESIGN CHOICE: the FT that a failed probe leaves counts
as one: with FT = 4 it hides every later fault until SFSR is read, with FT = 1 it has the class of the AT that stands there; R664
and R671 do not say (log 37). -/
def recordedFault (c : Cmu) : Option FaultClass :=
  let ft := c.sfsr.extractLsb' 2 3
  if ft = 0 then none else some (faultClass ft (c.sfsr.extractLsb' 5 3))

/-- Record a synchronous fault of an access with access type `at'` at the virtual address `va` (22 R660, R663, R664). L is free
where the spec gives it no value (log 39). DESIGN CHOICE: the record that stands is the first fault of Table 4-16 for a third one
too, so a fault that is not recorded leaves OW as it stands; R664 gives the table for two faults alone, with OW = 0 in those rows
(log 39). -/
def recordSync (s : State) (f : SyncFault) (at' : BitVec 3) (va : Word) : State :=
  let (upd, ow) := overwrite (recordedFault s.cmu) (faultClass f.ft at') at'
  let l := f.level.getD (BitVec.ofNat 2 (drawNat s .cmuLevel))
  if upd then withCmu s { s.cmu with sfsr := sfsrWord f.cbt (errorBits f.err) l at' f.ft true ow, sfar := va } else s

/-! ## Address spaces and access types (21 R606) -/

/-- A supervisor access: ASI 0x09 or 0x0B. -/
def asiSupervisor (asi : Asi) : Bool := asi = 0x09 || asi = 0x0B
/-- An instruction-space access: ASI 0x08 or 0x09. -/
def asiInstruction (asi : Asi) : Bool := asi = 0x08 || asi = 0x09

/-- The access type AT: user or supervisor, data or instruction, load or store (21 R606, Table 4-18). -/
def accessType (asi : Asi) (write : Bool) : BitVec 3 :=
  BitVec.ofBool write ++ BitVec.ofBool (asiInstruction asi) ++ BitVec.ofBool (asiSupervisor asi)

/-- Table 4-20: row AT, column ACC; 0 allowed, 2 protection error, 3 privilege violation error (22 R661). -/
def accessTable : List (List (BitVec 3)) :=
  [[0, 0, 0, 0, 2, 0, 3, 3],
   [0, 0, 0, 0, 2, 0, 0, 0],
   [2, 2, 0, 0, 0, 2, 3, 3],
   [2, 2, 0, 0, 0, 2, 0, 0],
   [2, 0, 2, 0, 2, 2, 3, 3],
   [2, 0, 2, 0, 2, 0, 2, 0],
   [2, 2, 2, 0, 2, 2, 3, 3],
   [2, 2, 2, 0, 2, 2, 2, 0]]

/-- The fault type of the access check, 0 where the access is allowed (22 R661). -/
def checkAccess (at' acc : BitVec 3) : BitVec 3 := (accessTable.getD at'.toNat []).getD acc.toNat 0

/-! ## The TLB (21 R603 to R610) -/

/-- A page of access level 6 or 7: supervisor only (21 R606). -/
def accSupervisor (acc : BitVec 3) : Bool := acc = 6 || acc = 7

/-- The index condition of a match, by ST (21 R604, Table 4-1). -/
def indexMatch (st : BitVec 2) (a b : BitVec 20) : Bool :=
  match st.toNat with
  | 0 => a = b
  | 1 => a.extractLsb' 6 14 = b.extractLsb' 6 14
  | 2 => a.extractLsb' 12 8 = b.extractLsb' 12 8
  | _ => true

/-- Whether an entry matches a virtual page in a context (21 R604). -/
def TlbEntry.matches (e : TlbEntry) (vpn : BitVec 20) (cxn : BitVec 12) (sup : Bool) : Bool :=
  e.v && indexMatch e.st e.va vpn && (e.cxn = cxn || (accSupervisor e.acc && sup))

/-- The numbers of the entries that match. -/
def tlbMatches (c : Cmu) (vpn : BitVec 20) (cxn : BitVec 12) (sup : Bool) : List (Fin 64) :=
  (List.finRange 64).filter fun i => (c.tlb[i]).matches vpn cxn sup

/-- The physical page from a PPN, by ST (21 R605). -/
def physicalPage (ppn : BitVec 24) (st : BitVec 2) (vpn : BitVec 20) : BitVec 24 :=
  match st.toNat with
  | 0 => ppn
  | 1 => ppn.extractLsb' 6 18 ++ vpn.extractLsb' 0 6
  | 2 => ppn.extractLsb' 12 12 ++ vpn.extractLsb' 0 12
  | _ => ppn.extractLsb' 20 4 ++ vpn

/-- A page translated: its 24-bit number PA[35:12], cacheable, access level. -/
structure Page where
  ppn : BitVec 24
  c : Bool
  acc : BitVec 3
deriving DecidableEq, Repr

/-- The page an entry translates to. -/
def TlbEntry.page (e : TlbEntry) (vpn : BitVec 20) : Page := { ppn := physicalPage e.ppn e.st vpn, c := e.c, acc := e.acc }

/-- The physical address of an access in a page. -/
def Page.address (p : Page) (va : Word) : Nat := (p.ppn ++ va.extractLsb' 0 12).toNat

/-! ## The table walk (21 R615 to R620) -/

/-- What a walk found: the PTE, its physical address and level, the root pointer and the level-2 pointer it read. -/
structure WalkHit where
  pte : Word
  addr : Nat
  level : Nat
  root : Option Word
  ptp2 : Option Word
deriving DecidableEq, Repr

/-- The address of the entry a pointer leads to, from a table of level `level` (21 R615). -/
def pointerTarget (level : Nat) (ptp va : Word) : Nat :=
  match level with
  | 0 => (ptp.extractLsb' 6 26 ++ va.extractLsb' 24 8 ++ 0#2).toNat
  | 1 => (ptp.extractLsb' 4 28 ++ va.extractLsb' 18 6 ++ 0#2).toNat
  | _ => (ptp.extractLsb' 4 28 ++ va.extractLsb' 12 6 ++ 0#2).toNat

/-- Walk from the entry at `addr`, `left` levels above level 3 (21 R615, R616, R619). -/
def walkFrom (s : State) (va : Word) : (left addr : Nat) → (root ptp2 : Option Word) → Except SyncFault WalkHit
  | left, addr, root, ptp2 =>
    let level := 3 - left
    let l := some (BitVec.ofNat 2 level)
    match busError s false addr 4 with
    | some e => .error { ft := 4, level := l, err := some e, cbt := false }
    | none =>
      let w := (datumAt s.mem (memKey 0 addr) .word).setWidth 32
      match (w.extractLsb' 0 2).toNat with
      | 0 => .error (syncFault 1 l)
      | 2 => .ok { pte := w, addr := addr, level := level, root := root, ptp2 := ptp2 }
      | 3 => .error (syncFault 4 l)
      | _ =>
        match left with
        | 0 => .error (syncFault 4 l)
        | k + 1 =>
          walkFrom s va k (pointerTarget level w va) (if level = 0 then some w else root)
            (if level = 2 then some w else ptp2)

/-- The start of a walk: the cached level-2 pointer, else the cached root pointer, else the context table (21 R615, R620,
log 38). The cached pointers are those of the current context, for every purpose of a walk (`Purpose.instr`). -/
def walk (s : State) (va : Word) (cxn : BitVec 12) (instr : Bool) : Except SyncFault WalkHit :=
  let c := s.cmu
  let ptp := if instr then c.iptp else c.dptp
  let tag := if instr then c.itr.extractLsb' 18 14 else c.itr.extractLsb' 2 14
  let current := cxn = c.context
  if current && ptp.getLsbD 0 && tag = va.extractLsb' 18 14 then
    walkFrom s va 0 (pointerTarget 2 ptp va) none none
  else if current && c.rpr.getLsbD 0 then
    walkFrom s va 2 (pointerTarget 0 c.rpr va) none none
  else
    walkFrom s va 3 (c.ctpr.extractLsb' 10 22 ++ cxn ++ 0#2).toNat none none

/-- The pointer cache after a walk: the root pointer, and the level-2 pointer where the walk was for an access and read
one (21 R620). -/
def fillPointers (c : Cmu) (h : WalkHit) (va : Word) (cxn : BitVec 12) (instr forAccess : Bool) : Cmu :=
  let c1 := match h.root with
    | some w => if cxn = c.context then { c with rpr := w.extractLsb' 6 26 ++ 0#5 ++ 1#1 } else c
    | none => c
  match h.ptp2 with
  | some w =>
    if !forAccess || cxn ≠ c.context then c1
    else
      let p : Word := w.extractLsb' 4 28 ++ 0#3 ++ 1#1
      let tag := va.extractLsb' 18 14
      if instr then { c1 with iptp := p, itr := tag ++ 0#2 ++ c1.itr.extractLsb' 0 16 }
      else { c1 with dptp := p, itr := c1.itr.extractLsb' 16 16 ++ tag ++ 0#2 }
  | none => c1

/-- The TLB entry of a PTE found at a level (21 R603, R615). -/
def entryOfPte (pte : Word) (level : Nat) (vpn : BitVec 20) (cxn : BitVec 12) : TlbEntry :=
  { va := vpn, cxn := cxn, ppn := pte.extractLsb' 8 24, c := pte.getLsbD 7, m := pte.getLsbD 6,
    acc := pte.extractLsb' 2 3, st := BitVec.ofNat 2 (3 - level), v := true }

/-- The entry a TLB miss replaces: any from the lowest the replacement counter may point to, to 63 (21 R609, log 31). Each
replacement draws afresh. -/
def tlbVictim (s : State) : Nat :=
  let low := min s.cmu.rc.toNat s.cmu.irc.toNat
  low + drawNat s .cmuReplace % (64 - low)

/-- The CMU with one TLB entry replaced. -/
def setTlb (c : Cmu) (i : Nat) (e : TlbEntry) : Cmu := { c with tlb := c.tlb.setIfInBounds i e }

/-- The state after a TLB miss loaded an entry (21 R609). -/
def loadTlb (s : State) (e : TlbEntry) : State := withCmu s (setTlb s.cmu (tlbVictim s) e)

/-- Set R, and M for a write, in the PTE in memory, with a bus write only where a bit changes (21 R618); a bus error is a
translation error, the fault of the highest priority (22 R661, R662). -/
def updatePte (s : State) (h : WalkHit) (write : Bool) : Except SyncFault (State × Word) :=
  let pte := h.pte ||| 0x20#32 ||| (if write then 0x40#32 else 0#32)
  if pte = h.pte then .ok (s, pte)
  else
    match busError s true h.addr 4 with
    | some e => .error { ft := 4, level := some (BitVec.ofNat 2 h.level), err := some e, cbt := false }
    | none => .ok ({ s with mem := setDatum s.mem (memKey 0 h.addr) .word (pte.setWidth 64) }, pte)

/-- What a translation is for: an access with its access type, or a cycle that ignores access checking: a probe, or an alias
check or copy-back flush (21 R606, R619, R620). -/
inductive Purpose where
  | access (at' : BitVec 3)
  | probe
  | line
deriving DecidableEq, Repr

/-- The access check of a purpose. -/
def Purpose.check (p : Purpose) (acc : BitVec 3) : BitVec 3 :=
  match p with
  | .access at' => checkAccess at' acc
  | _ => 0

/-- A store or load-store. -/
def Purpose.write : Purpose → Bool
  | .access at' => at'.getLsbD 2
  | _ => false

/-- An access to an instruction space, whose walk uses IPTP; every other uses DPTP. DESIGN CHOICE: so does the walk of an alias
check or a copy-back flush in the current context; R620 gives the level-2 pointers to instruction and data accesses alone
(log 38). -/
def Purpose.instr : Purpose → Bool
  | .access at' => at'.getLsbD 1
  | _ => false

/-- A table walk with its effects: R is set in every PTE it reads, M for a write whose check passes; then the check, and the
pointer cache, in which only the walk of a TLB miss caches a level-2 pointer. On success the PTE as it now stands and its level
(21 R615, R618, R620). DESIGN CHOICE: a walk that ends in a fault caches no pointer it read; R620 does not say (log 38). -/
def tableWalk (s : State) (va : Word) (cxn : BitVec 12) (p : Purpose) (miss : Bool) : State × Except SyncFault (Word × Nat) :=
  let s0 := settleWalk s
  match walk s0 va cxn p.instr with
  | .error f => (s0, .error f)
  | .ok h =>
    let ft := p.check (h.pte.extractLsb' 2 3)
    match updatePte s0 h (p.write && decide (ft = 0)) with
    | .error f => (s0, .error f)
    | .ok (s1, pte) =>
      if ft ≠ 0 then (s1, .error (syncFault ft none))
      else (withCmu s1 (fillPointers s1.cmu h va cxn p.instr (miss && p ≠ .line)), .ok (pte, h.level))

/-- The page several matching entries translate to: free (21 R604, R610, log 32). -/
def freePage (s : State) : Page :=
  let n := drawNat s .cmuMatch
  { ppn := BitVec.ofNat 24 (n / 64), c := decide (n / 4 % 2 = 1), acc := BitVec.ofNat 3 (n / 8) }

/-- Several entries match: the page is free, and for an access so is the check, each time anew; the other cycles ignore the
check (21 R604, R606, R610, log 32). -/
def freeTranslation (s : State) (p : Purpose) : Except SyncFault Page :=
  match p, drawNat s .cmuMatch % 4 with
  | .access _, 0 => .error (syncFault 2 none)
  | .access _, 1 => .error (syncFault 3 none)
  | _, _ => .ok (freePage s)

/-- Translate a virtual address: TLB match, check, the walk that sets M, or the walk of a miss that loads an entry
(21 R604 to R608, R614). -/
def translate (s : State) (va : Word) (cxn : BitVec 12) (sup : Bool) (p : Purpose) : State × Except SyncFault Page :=
  let vpn := va.extractLsb' 12 20
  match tlbMatches s.cmu vpn cxn sup with
  | [] =>
    match tableWalk s va cxn p true with
    | (s1, .error f) => (s1, .error f)
    | (s1, .ok (pte, level)) =>
      let e := entryOfPte pte level vpn cxn
      (refresh (loadTlb s1 e), .ok (e.page vpn))
  | [i] =>
    let e := s.cmu.tlb[i]
    let ft := p.check e.acc
    if ft ≠ 0 then (s, .error (syncFault ft none))
    else if p.write && !e.m then
      match tableWalk s va cxn p false with
      | (s1, .error f) => (s1, .error f)
      | (s1, .ok _) => (withCmu s1 (setTlb s1.cmu i { e with m := true }), .ok (e.page vpn))
    else (s, .ok (e.page vpn))
  | _ => (refresh s, freeTranslation s p)

/-- The page of a virtual address from the TLB alone, for the alias checks that ignore a TLB miss (21 R627); where several
entries match, a free page, each time anew (R610, log 32). -/
def tlbOnly (s : State) (va : Word) (cxn : BitVec 12) (sup : Bool) : State × Option Page :=
  let vpn := va.extractLsb' 12 20
  match tlbMatches s.cmu vpn cxn sup with
  | [] => (s, none)
  | [i] => (s, some ((s.cmu.tlb[i]).page vpn))
  | _ => (refresh s, some (freePage s))

end Sys2Proof.Machine
end

