-- ==== Sys2Proof/Machine/Cache.lean ====
section
/-! DEFINITION. The virtual cache of the CMU (21_mmu_cache.md R621 to R628). -/
namespace Sys2Proof.Machine

/-! ## Lines and tags (R621, R628) -/

/-- The line a virtual address selects: VA[15:5]. -/
def lineIndex (va : Word) : Nat := (va.extractLsb' 5 11).toNat

/-- The place of a byte in the cache data: VA[15:0]. -/
def dataKey (va : Word) : Nat := (va.extractLsb' 0 16).toNat

/-- The tag of a line (the PVTAG on the CY7C605). -/
def tagAt (s : State) (n : Nat) : Tag := sparseGet .reset s.cmu.tags n

/-- The MPTAG of a line (CY7C605). -/
def mptagAt (s : State) (n : Nat) : MpTag := sparseGet .reset s.cmu.mptags n

/-- Write a tag. -/
def setTag (s : State) (n : Nat) (t : Tag) : State := withCmu s { s.cmu with tags := sparseSet .reset s.cmu.tags n t }

/-- Write an MPTAG. -/
def setMpTag (s : State) (n : Nat) (t : MpTag) : State :=
  withCmu s { s.cmu with mptags := sparseSet .reset s.cmu.mptags n t }

/-- The state with other cache data. -/
def withData (s : State) (d : List Host.Cell) : State := withCmu s { s.cmu with data := d }

/-- Whether a tag matches an access (R621). -/
def Tag.hit (t : Tag) (va : Word) (cxn : BitVec 12) (sup : Bool) : Bool :=
  t.v && t.va = va.extractLsb' 16 16 && (t.cxn = cxn || (t.s && sup))

/-- Whether the line an access selects holds it (R621). -/
def cacheHit (s : State) (va : Word) (sup : Bool) : Bool := (tagAt s (lineIndex va)).hit va s.cmu.context sup

/-- Whether a line holds data memory lacks: the M bit of the tag, on the CY7C605 of the MPTAG; meaningful in copy-back mode
(R621, R628). -/
def lineModified (s : State) (n : Nat) : Bool :=
  s.cmu.cm && (tagAt s n).v && (if is605 s then (mptagAt s n).m else (tagAt s n).m)

/-- Invalidate a line, both tags (R622, R628). -/
def invalidateLine (s : State) (n : Nat) : State :=
  let s1 := setTag s n { tagAt s n with v := false }
  if is605 s then setMpTag s1 n { mptagAt s1 n with v := false } else s1

/-- A store into the cache makes the line modified and, on the CY7C605, exclusive (R623, R628). -/
def markModified (s : State) (n : Nat) : State :=
  if is605 s then
    setMpTag (setTag s n { tagAt s n with sh := false }) n { mptagAt s n with sh := false, m := true }
  else setTag s n { tagAt s n with m := true }

/-! ## Transfers between memory and the cache -/

/-- A bus access error (22 R661, R693). -/
def busFaultOf (e : BusError) : SyncFault := { ft := 5, level := none, err := some e, cbt := false }

/-- A read of memory that the IU waits for; a bus error is a bus access error (22 R661, R693). -/
def busRead (s : State) (bank pa : Nat) (size : Size) : State × Except SyncFault DWord :=
  let t := settleRead s bank pa size.bytes
  match busError t false pa size.bytes with
  | some e => (t, .error (busFaultOf e))
  | none => (t, .ok (datumAt t.mem (memKey bank pa) size))

/-- The physical address of the first byte of the line that holds an access. -/
def lineAddress (ppn : BitVec 24) (va : Word) : Nat := (ppn ++ va.extractLsb' 5 7 ++ 0#5).toNat

/-- The 32 bytes from key `k` upwards. -/
def lineBytes (m : List Host.Cell) (k : Nat) : List Byte := (List.range 32).map fun i => byteAt m (k + i)

/-- Write a line back to memory at a physical page, through the write buffers; it reaches memory later (R623, R625, R672). -/
def writeBack (s : State) (va : Word) (ppn : BitVec 24) : State :=
  busWrite s 0 (lineAddress ppn va) (lineBytes s.cmu.data (32 * lineIndex va))

/-- Write back the line that a miss replaces. On the CY7C605 the buffers empty in the same step: the block write belongs to the
tenure of the bus in which the line is replaced, so no snooped transaction falls before it (R628, log 43). -/
def replaceLine (s : State) (va : Word) (ppn : BitVec 24) : State :=
  let t := writeBack s va ppn
  if is605 s then drainAll t else t

/-- The tags of a line after it is loaded for an access to `va` in `page` (R621, R623, R628): on the CY7C605 in copy-back mode
shared where another cache answers MSH (log 43). -/
def loadTags (s : State) (va : Word) (page : Page) : State :=
  let n := lineIndex va
  let shared := is605 s && s.cmu.cm && s.plat.msh
  let s1 := setTag s n { va := va.extractLsb' 16 16, cxn := s.cmu.context, v := true, m := false, sh := shared,
                         s := accSupervisor page.acc }
  if is605 s then setMpTag s1 n { pa := page.ppn, v := true, sh := shared, m := false } else s1

/-- An alias found: the tag takes the new virtual address (R627). DESIGN CHOICE: with it CXN becomes the current context and S
follows the new page's access level, as for a line that is loaded; R627 names the virtual address alone (log 29). -/
def retag (s : State) (va : Word) (page : Page) : State :=
  let n := lineIndex va
  setTag s n { tagAt s n with va := va.extractLsb' 16 16, cxn := s.cmu.context, s := accSupervisor page.acc }

/-- The virtual address of the line a tag holds, in the line that `va` selects. -/
def tagAddress (t : Tag) (va : Word) : Word := t.va ++ va.extractLsb' 0 16

/-- The physical page of the line now in the place of `va`, for the alias check and the write-back: on the CY7C605 the MPTAG;
on the CY7C604 a translation of the tag's address, in the tag's own context (log 29), by a table walk where the line is
modified, else by the TLB alone. A failing walk sets CBT beside its fault type, FT = 1 for an invalid entry and 4 for a
translation error (R619, R627, R628, 22 R650, R661). -/
def occupantPage (s : State) (va : Word) : State × Except SyncFault (Option (BitVec 24)) :=
  let n := lineIndex va
  let t := tagAt s n
  if !t.v then (s, .ok none)
  else if is605 s then (s, .ok (if (mptagAt s n).v then some (mptagAt s n).pa else none))
  else if lineModified s n then
    match translate s (tagAddress t va) t.cxn t.s .line with
    | (s1, .ok p) => (s1, .ok (some p.ppn))
    | (s1, .error f) => (s1, .error { f with cbt := true })
  else
    let r := tlbOnly s (tagAddress t va) t.cxn t.s
    (r.1, .ok (r.2.map Page.ppn))

/-- Load the line of an access that missed: it waits for the write buffers, the line comes into the read buffer, a modified
occupant goes to the write buffers, and the read buffer into the cache (R622, R623, R625). A bus error on the read leaves the
cache as it was (log 29). -/
def loadLine (s : State) (va : Word) (page : Page) (occupant : Option (BitVec 24)) : State × Option SyncFault :=
  let n := lineIndex va
  let pa := lineAddress page.ppn va
  let s0 := drainAll s
  match busError s0 false pa 32 with
  | some e => (s0, some (busFaultOf e))
  | none =>
    let bytes := lineBytes s0.mem (memKey 0 pa)
    let s1 := withCmu s0 { s0.cmu with rbuf := some bytes }
    let s2 := match lineModified s1 n, occupant with
      | true, some ppn => replaceLine s1 va ppn
      | _, _ => s1
    (loadTags (withData s2 (setBytes s2.cmu.data (32 * n) bytes)) va page, none)

/-- Whether the cache is locked over the line that `va` selects: the line keeps its place, and an access that misses it goes to
memory (R624, R627). -/
def lineLocked (s : State) (va : Word) : Bool := !is605 s && s.cmu.cl && (tagAt s (lineIndex va)).v

/-- Serve a cache miss: `true` where the line now holds the access, `false` where a locked line keeps its place and the
access goes to memory (R624, R627). DESIGN CHOICE: a read miss corrected as an alias does not wait for the write buffers: R627
halts the miss and serves it as a hit, and R625 does not say (log 28). -/
def serveMiss (s : State) (va : Word) (page : Page) : State × Except SyncFault Bool :=
  if lineLocked s va then (s, .ok false)
  else
    match occupantPage s va with
    | (s1, .error f) => (s1, .error f)
    | (s1, .ok occupant) =>
      if occupant = some page.ppn then (retag s1 va page, .ok true)
      else
        match loadLine s1 va page occupant with
        | (s2, some f) => (s2, .error f)
        | (s2, none) => (s2, .ok true)

/-! ## Accesses through the cache -/

/-- A load or fetch through the cache; a miss waits until all write buffers are empty, also where a locked line sends it to
memory (R622, R623, R625). -/
def cachedRead (s : State) (va : Word) (sup : Bool) (page : Page) (size : Size) : State × Except SyncFault DWord :=
  if cacheHit s va sup then (s, .ok (datumAt s.cmu.data (dataKey va) size))
  else
    match serveMiss s va page with
    | (s1, .error f) => (s1, .error f)
    | (s1, .ok true) => (s1, .ok (datumAt s1.cmu.data (dataKey va) size))
    | (s1, .ok false) => busRead (drainAll s1) 0 (page.address va) size

/-- Where a store that met no fault goes. -/
inductive StoreTarget where
  /-- Nowhere: a fault that SCR.NF keeps from the IU (22 R660, log 35). -/
  | nowhere
  /-- Memory alone, through the write buffers. -/
  | memory (bank pa : Nat)
  /-- The cache alone, whose line becomes modified: copy-back mode. -/
  | cache (pa : Nat)
  /-- The cache and memory: a hit in write-through mode. -/
  | both (pa : Nat)
  /-- Memory, and the line selected becomes invalid: a miss in write-through mode. -/
  | missed (pa : Nat)
deriving DecidableEq, Repr

/-- Where a store through the cache goes: write-through with no allocate, or copy-back with allocate, which first brings in the
line (R622, R623, R627). The datum is stored nowhere yet. -/
def cachedTarget (s : State) (va : Word) (sup : Bool) (page : Page) : State × Except SyncFault StoreTarget :=
  let pa := page.address va
  if !s.cmu.cm then (s, .ok (if cacheHit s va sup then .both pa else .missed pa))
  else if cacheHit s va sup then (s, .ok (.cache pa))
  else
    match serveMiss s va page with
    | (s1, .error f) => (s1, .error f)
    | (s1, .ok true) => (s1, .ok (.cache pa))
    | (s1, .ok false) => (s1, .ok (.memory 0 pa))

/-- What a store does to the cache (R622, R623). -/
def putCache (s : State) (t : StoreTarget) (va : Word) (size : Size) (v : DWord) : State :=
  match t with
  | .cache _ => markModified (withData s (setDatum s.cmu.data (dataKey va) size v)) (lineIndex va)
  | .both _ => withData s (setDatum s.cmu.data (dataKey va) size v)
  | .missed _ => invalidateLine s (lineIndex va)
  | .memory .. | .nowhere => s

/-- The bank and the physical address a store writes in memory, if it does. -/
def StoreTarget.place : StoreTarget → Option (Nat × Nat)
  | .memory bank pa => some (bank, pa)
  | .both pa | .missed pa => some (0, pa)
  | .cache _ | .nowhere => none

/-- Bytes for memory, where there is a place for them. -/
def putMemory (s : State) (place : Option (Nat × Nat)) (bs : List Byte) : State :=
  match place with
  | some (bank, pa) => busWrite s bank pa bs
  | none => s

/-- Store a datum at its target. -/
def putStore (s : State) (t : StoreTarget) (va : Word) (size : Size) (v : DWord) : State :=
  putMemory (putCache s t va size v) t.place (datumBytes v size)

/-- A store through the cache (R622, R623, R627). -/
def cachedWrite (s : State) (va : Word) (sup : Bool) (page : Page) (size : Size) (v : DWord) :
    State × Option SyncFault :=
  match cachedTarget s va sup page with
  | (s1, .error f) => (s1, some f)
  | (s1, .ok t) => (putStore s1 t va size v, none)

/-- The read and the write of an atomic access on memory itself, one locked tenure, after the write buffers are empty
(92_eei_decisions.md D7); an error of either half is a bus access error (R626, log 48). -/
def lockedExchange (s : State) (bank pa : Nat) (size : Size) (v : DWord) : State × Except SyncFault DWord :=
  match busRead (drainAll s) bank pa size with
  | (s1, .error f) => (s1, .error f)
  | (s1, .ok old) =>
    match busError s1 true pa size.bytes with
    | some e => (s1, .error (busFaultOf e))
    | none => ({ s1 with mem := setDatum s1.mem (memKey bank pa) size v }, .ok old)

/-- An atomic access to a cacheable page. On a CY7C604 in write-through mode it is forced into memory, with the line it hits
invalidated; where it misses a locked line it is not cached, one locked access to memory; else it is a cached load and a cached
store, after the write buffers are empty (R624, R626, 92_eei_decisions.md D7). No access of another agent falls between its
halves (20_memory.md R76), so in write-through mode the store's buffer empties in the same step. DESIGN CHOICE: its bus error is
asynchronous even so, and the line that was hit stays invalid when the locked access ends in a bus error; R626 does not say
(log 48). -/
def cachedExchange (s : State) (va : Word) (sup : Bool) (page : Page) (size : Size) (v : DWord) :
    State × Except SyncFault DWord :=
  if !is605 s && !s.cmu.cm then
    let s1 := if cacheHit s va sup then invalidateLine s (lineIndex va) else s
    lockedExchange s1 0 (page.address va) size v
  else if lineLocked s va && !cacheHit s va sup then lockedExchange s 0 (page.address va) size v
  else
    match cachedRead (drainAll s) va sup page size with
    | (s1, .error f) => (s1, .error f)
    | (s1, .ok old) =>
      match cachedWrite s1 va sup page size v with
      | (s2, some f) => (s2, .error f)
      | (s2, none) => (if s.cmu.cm then s2 else drainAll s2, .ok old)

/-! ## Cache line flush (22 R672) -/

/-- Whether the selected tag matches a flush of type `k` = 0 page, 1 segment, 2 region, 3 context, 4 user (22 R672,
Table 4-7). -/
def flushMatch (t : Tag) (k : Nat) (va : Word) (cxn : BitVec 12) : Bool :=
  t.v && match k with
    | 0 => (t.cxn = cxn || t.s) && t.va = va.extractLsb' 16 16
    | 1 => (t.cxn = cxn || t.s) && t.va.extractLsb' 2 14 = va.extractLsb' 18 14
    | 2 => (t.cxn = cxn || t.s) && t.va.extractLsb' 8 8 = va.extractLsb' 24 8
    | 3 => t.cxn = cxn && !t.s
    | _ => !t.s

/-- Flush one line: a modified one goes into the write buffers, and so to memory later; a failing translation leaves the line and is a fault with CBT
(22 R650, R672). -/
def flushLine (s : State) (k : Nat) (va : Word) : State × Option SyncFault :=
  let n := lineIndex va
  if !flushMatch (tagAt s n) k va s.cmu.context then (s, none)
  else if !lineModified s n then (invalidateLine s n, none)
  else
    match occupantPage s va with
    | (s1, .error f) => (s1, some f)
    | (s1, .ok (some ppn)) => (invalidateLine (writeBack s1 va ppn) n, none)
    | (s1, .ok none) => (invalidateLine s1 n, none)

/-! ## Snooping on the CY7C605 (R628) -/

/-- The line of the MPTAG array that a snooped transaction selects: VA[15:12] and PA[11:5]. -/
def Snoop.index (x : Snoop) : Nat := (x.superset ++ x.line.extractLsb' 0 7).toNat

/-- The physical page of a snooped line. -/
def Snoop.page (x : Snoop) : BitVec 24 := x.line.extractLsb' 7 24

/-- The key of the first byte of a snooped line in memory. -/
def Snoop.key (x : Snoop) : Nat := memKey 0 (x.line ++ 0#5).toNat

/-- Whether the MPTAG selected holds the snooped line. -/
def snoopHit (s : State) (x : Snoop) : Bool := (mptagAt s x.index).v && (mptagAt s x.index).pa = x.page

/-- This cache supplies the data of a modified line, and the bus answers further reads of it with that data: memory that
reflects, or the master that now owns the line (log 43). -/
def supplyLine (s : State) (x : Snoop) : State :=
  { s with mem := setBytes s.mem x.key (lineBytes s.cmu.data (32 * x.index)) }

/-- A line after a snooped coherent read: shared, and clean where memory reflects (R628). -/
def shareLine (s : State) (x : Snoop) : State :=
  let t := mptagAt s x.index
  let s1 := if t.m && s.cmu.mr then supplyLine s x else s
  setMpTag (setTag s1 x.index { tagAt s x.index with sh := true }) x.index { t with sh := true, m := t.m && !s.cmu.mr }

/-- A snooped transaction: the transitions of R628 in copy-back mode, and valid or invalid alone in write-through mode. A
coherent write and invalidate also writes its line to memory. -/
def snoop (s : State) (x : Snoop) : State :=
  let modified := s.cmu.cm && (mptagAt s x.index).m
  match x.kind, snoopHit s x with
  | .cr, true => if s.cmu.cm then shareLine s x else s
  | .cr, false => s
  | .cri, true => invalidateLine (if modified then supplyLine s x else s) x.index
  | .cri, false => s
  | .ci, true => invalidateLine s x.index
  | .ci, false => s
  | .cwi line, hit =>
    let s1 := { s with mem := setBytes s.mem x.key line }
    if hit then invalidateLine s1 x.index else s1

end Sys2Proof.Machine
end

