-- ==== Sys2Proof/Machine/CmuSpaces.lean ====
section
/-! DEFINITION. The CMU's registers, TLB and tag diagnostics, flush and probe, and its resets
(22_cmu_registers_faults_reset.md). -/
namespace Sys2Proof.Machine

/-! ## Registers, ASI 0x04 (R640 to R653) -/

/-- A value with defined bits `mask`: the reserved bits read free (R640, log 33). -/
def withReserved (s : State) (mask v : Word) : Word :=
  if mask = 0xFFFFFFFF#32 then v else (v &&& mask) ||| (drawWord s .cmuReserved &&& ~~~mask)

/-- The defined bits of SCR (R641, R642). -/
def scrMask (s : State) : Word := if is605 s then 0xFFFFED03#32 else 0xFFF86703#32

/-- IMPL and VER of the part (R641, R642). -/
def scrVersion (s : State) : Word := if is605 s then 0x1F000000#32 else 0x10000000#32

/-- The defined bits of SFSR: CBT is reserved on the CY7C605 (R650). -/
def sfsrMask (s : State) : Word := if is605 s then 0x1FFF#32 else 0x3FFF#32

/-- RC as a read sees it: a value of the range the counter cycles through, IRC to 63 (R652, 70_reset_and_hazards.md R523,
log 31). -/
def readCounter (s : State) : BitVec 6 :=
  let low := s.cmu.irc.toNat
  BitVec.ofNat 6 (low + drawNat s .cmuCounter % (64 - low))

/-- A word load of the register at VA[15:0], with the effect of the read; none for a reserved address (R640). -/
def readCmuReg (s : State) (a : Nat) : Option (State × Word) :=
  let c := s.cmu
  match a with
  | 0x0000 => some (s, withReserved s (scrMask s) (scrVersion s ||| (c.scr &&& 0x00FFFFFF#32)))
  | 0x0100 => some (s, withReserved s 0xFFFFFC00#32 c.ctpr)
  | 0x0200 => some (s, withReserved s 0xFFF#32 c.cxr)
  | 0x0300 => some (withCmu s { c with sfsr := 0 }, withReserved s (sfsrMask s) c.sfsr)
  | 0x0400 => some (s, c.sfar)
  | 0x0500 => some (withCmu s { c with afsr := c.afsr &&& 0xF0#32 }, withReserved s 0x1CF1#32 c.afsr)
  | 0x0600 =>
    some (if s.plat.afarReadClearsAfo then withCmu s { c with afsr := c.afsr &&& 0xFFFFFFFE#32 } else s, c.afar)
  | 0x0700 => some (withCmu s { c with rr := 0 }, withReserved s 7#32 (c.rr.setWidth 32))
  | 0x1000 => some (s, withReserved s 0xFFFFFFC1#32 c.rpr)
  | 0x1100 => some (s, withReserved s 0xFFFFFFF1#32 c.iptp)
  | 0x1200 => some (s, withReserved s 0xFFFFFFF1#32 c.dptp)
  | 0x1300 => some (s, withReserved s 0xFFFCFFFC#32 c.itr)
  | 0x1400 => some (s, withReserved s 0x3F3F#32 (0#18 ++ readCounter s ++ 0#2 ++ c.irc))
  | _ => none

/-- Invalidate the pointer cache (21_mmu_cache.md R620). -/
def clearPointers (c : Cmu) : Cmu :=
  { c with rpr := c.rpr &&& 0xFFFFFFFE#32, iptp := c.iptp &&& 0xFFFFFFFE#32, dptp := c.dptp &&& 0xFFFFFFFE#32 }

/-- A store of 1 to RR.WDR: whether it sets the bit is not stated, a free choice (R645, log 40). DESIGN CHOICE: it starts no
reset; R645 does not say (91 N54, log 40). -/
def writtenWdr (s : State) (v : Word) : Bool := v.getLsbD 2 && (s.cmu.rr.getLsbD 2 || drawBool s .cmuWdr)

/-- A word store to the register at VA[15:0]; reserved bits are ignored; none for a reserved address (R640). Writing SIR
asserts IRST, which the IU sees at the next instruction boundary (R645, R683, log 40). DESIGN CHOICE: writing WDR starts no
reset, whether or not the bit is set (R645, log 40). -/
def writeCmuReg (s : State) (a : Nat) (v : Word) : Option Cmu :=
  let c := s.cmu
  match a with
  | 0x0000 => some { c with scr := v &&& scrMask s &&& 0x00FFFFFF#32 }
  | 0x0100 => some (clearPointers { c with ctpr := v &&& 0xFFFFFC00#32 })
  | 0x0200 => some (clearPointers { c with cxr := v &&& 0xFFF#32 })
  | 0x0300 => some { c with sfsr := v &&& sfsrMask s }
  | 0x0400 => some { c with sfar := v }
  | 0x0500 => some { c with afsr := v &&& 0x1CF1#32 }
  | 0x0600 => some { c with afar := v }
  | 0x0700 =>
    some { c with rr := BitVec.ofBool (writtenWdr s v) ++ v.extractLsb' 0 2, irst := c.irst || v.getLsbD 1 }
  | 0x1000 => some { c with rpr := v &&& 0xFFFFFFC1#32 }
  | 0x1100 => some { c with iptp := v &&& 0xFFFFFFF1#32 }
  | 0x1200 => some { c with dptp := v &&& 0xFFFFFFF1#32 }
  | 0x1300 => some { c with itr := v &&& 0xFFFCFFFC#32 }
  | 0x1400 => some { c with irc := v.extractLsb' 0 6, rc := v.extractLsb' 8 6 }
  | _ => none

/-- A store the spec gives no meaning, to a reserved address, of another size, or by an atomic: every CMU register free, and
nothing outside the CMU, so it starts no reset of the IU (R640, log 34). -/
def scrambleRegs (s : State) : Cmu :=
  let d (i : Nat) : Word := Config.freeWord s.draws (1000 + i)
  { s.cmu with
    scr := d 0 &&& scrMask s &&& 0x00FFFFFF#32, ctpr := d 1 &&& 0xFFFFFC00#32, cxr := d 2 &&& 0xFFF#32,
    rr := (d 3).extractLsb' 0 3, rpr := d 4 &&& 0xFFFFFFC1#32, iptp := d 5 &&& 0xFFFFFFF1#32,
    dptp := d 6 &&& 0xFFFFFFF1#32, itr := d 7 &&& 0xFFFCFFFC#32, sfsr := d 8 &&& sfsrMask s, sfar := d 9,
    irc := (d 10).extractLsb' 0 6, rc := (d 11).extractLsb' 0 6, afsr := d 12 &&& 0x1CF1#32, afar := d 13 }

/-! ## TLB flush and probe, ASI 0x03 (R670, R671) -/

/-- Whether a flush of the given TYPE invalidates an entry (R670, Table 4-5); a reserved TYPE invalidates a free subset
(log 36). -/
def tlbFlushes (s : State) (va : Word) (i : Nat) (e : TlbEntry) : Bool :=
  let cxn := s.cmu.context
  let vpn := va.extractLsb' 12 20
  let here := e.cxn = cxn || accSupervisor e.acc
  match (va.extractLsb' 8 4).toNat with
  | 0 => here && e.va = vpn
  | 1 => here && e.va.extractLsb' 6 14 = vpn.extractLsb' 6 14
  | 2 => here && e.va.extractLsb' 12 8 = vpn.extractLsb' 12 8
  | 3 => e.cxn = cxn && !accSupervisor e.acc
  | 4 => true
  | _ => (drawNat s .cmuFlush).testBit i

/-- TLB flush: the chosen entries and the cached level-2 pointers are invalidated (R670). -/
def tlbFlush (s : State) (va : Word) : State :=
  let c := s.cmu
  withCmu s { c with
    tlb := Vector.ofFn fun (i : Fin 64) =>
      if tlbFlushes s va i c.tlb[i] then { c.tlb[i] with v := false } else c.tlb[i]
    iptp := c.iptp &&& 0xFFFFFFFE#32
    dptp := c.dptp &&& 0xFFFFFFFE#32 }

/-- The PTE a probe returns for a TLB entry: R set, ET = 2 (R671). -/
def pteOfEntry (e : TlbEntry) : Word := e.ppn ++ BitVec.ofBool e.c ++ BitVec.ofBool e.m ++ 1#1 ++ e.acc ++ 2#2

/-- A failed probe updates UC, TO, BE, L and FT and nothing else (R671, log 37). -/
def recordProbe (s : State) (f : SyncFault) : State :=
  let l := f.level.getD (BitVec.ofNat 2 (drawNat s .cmuLevel))
  let fields : Word := sfsrWord false (errorBits f.err) l 0 f.ft false false
  withCmu s { s.cmu with sfsr := (s.cmu.sfsr &&& 0xFFFFE0E3#32) ||| fields }

/-- MMU probe: the entry that matches in the current context, else a table walk that loads the TLB; 0 and no trap where the
walk fails (R671, 92_eei_decisions.md D22). Several matching entries give a free word (log 32). -/
def probe (s : State) (va : Word) : State × Word :=
  let vpn := va.extractLsb' 12 20
  match tlbMatches s.cmu vpn s.cmu.context true with
  | [i] => (s, pteOfEntry s.cmu.tlb[i])
  | [] =>
    match tableWalk s va s.cmu.context .probe true with
    | (s1, .error f) => (recordProbe s1 f, 0)
    | (s1, .ok (pte, level)) => (refresh (loadTlb s1 (entryOfPte pte level vpn s.cmu.context)), pte)
  | _ => (s, drawWord s .cmuProbe)

/-! ## TLB diagnostics, ASI 0x06 (R673; 21_mmu_cache.md R603, log 30) -/

/-- The RAM word of an entry: PPN, C, M, ACC, ST, V (log 30). -/
def ramWord (e : TlbEntry) : Word :=
  e.ppn ++ BitVec.ofBool e.c ++ BitVec.ofBool e.m ++ e.acc ++ e.st ++ BitVec.ofBool e.v

/-- The CAM word of an entry: VA[31:12], CXN. -/
def camWord (e : TlbEntry) : Word := e.va ++ e.cxn

/-- An entry after its RAM word is written. -/
def withRam (e : TlbEntry) (w : Word) : TlbEntry :=
  { e with ppn := w.extractLsb' 8 24, c := w.getLsbD 7, m := w.getLsbD 6, acc := w.extractLsb' 3 3,
           st := w.extractLsb' 1 2, v := w.getLsbD 0 }

/-- An entry after its CAM word is written. -/
def withCam (e : TlbEntry) (w : Word) : TlbEntry := { e with va := w.extractLsb' 12 20, cxn := w.extractLsb' 0 12 }

/-- A word load of the TLB: entry n is at 8n (RAM) and 8n + 4 (CAM); none above 0x1FF (R673). -/
def readTlb (s : State) (va : Word) : Option Word :=
  let n := va.toNat / 8
  if h : n < 64 then
    some (if va.getLsbD 2 then camWord (s.cmu.tlb[n]) else ramWord (s.cmu.tlb[n]))
  else none

/-- A word store to the TLB (R673). -/
def writeTlb (s : State) (va : Word) (w : Word) : Option Cmu :=
  let n := va.toNat / 8
  if h : n < 64 then
    let e := s.cmu.tlb[n]
    some (setTlb s.cmu n (if va.getLsbD 2 then withCam e w else withRam e w))
  else none

/-- A store to the TLB space the spec gives no meaning: one free entry becomes free (log 34). -/
def scrambleTlb (s : State) : Cmu :=
  let e := withCam (withRam .reset (Config.freeWord s.draws 1020)) (Config.freeWord s.draws 1021)
  setTlb s.cmu (drawNat s .cmuBadWrite % 64) e

/-! ## Tag diagnostics, ASI 0x0E and 0x30 (R674, log 30) -/

/-- The word of a tag: VA[31:16], CXN, V, M (SH on the CY7C605), S, a reserved bit (R674, log 30). -/
def tagWord (s : State) (t : Tag) : Word :=
  t.va ++ t.cxn ++ BitVec.ofBool t.v ++ BitVec.ofBool (if is605 s then t.sh else t.m) ++ BitVec.ofBool t.s ++ 0#1

/-- The tag a word leaves. -/
def tagOfWord (s : State) (w : Word) : Tag :=
  { va := w.extractLsb' 16 16, cxn := w.extractLsb' 4 12, v := w.getLsbD 3, m := !is605 s && w.getLsbD 2,
    sh := is605 s && w.getLsbD 2, s := w.getLsbD 1 }

/-- The word whose bit `i` is bit `f i` of `w`. -/
def bitsAt (f : Fin 32 → Fin 32) (w : Word) : Word := BitVec.ofFnLE fun i => w.getLsbD (f i)

/-- The word of an MPTAG, every bit at its place; the reserved bits read free (R674, log 30). -/
def mptagWord (s : State) (t : MpTag) : Word :=
  bitsAt Config.mptagLayout.symm
    ((drawWord s .cmuFlushTag).extractLsb' 0 5 ++ BitVec.ofBool t.m ++ BitVec.ofBool t.sh ++ BitVec.ofBool t.v ++ t.pa)

/-- The MPTAG a word leaves (R674, log 30). -/
def mptagOfWord (w : Word) : MpTag :=
  let b := bitsAt Config.mptagLayout w
  { pa := b.extractLsb' 0 24, v := b.getLsbD 24, sh := b.getLsbD 25, m := b.getLsbD 26 }

/-! ## Resets by the CMU (R680 to R684) -/

/-- Before the system reset that a store of 1 to RR.SER asks for, the write buffers empty (R684). -/
def settleSer (s : State) (a : Nat) (v : Word) : State := if a = 0x0700 && v.getLsbD 0 then drainAll s else s

/-- What every reset of the IU through a CMU does to it: BM ← 1, IRST done (R680). -/
def bootMode (c : Cmu) : Cmu := { c with scr := c.scr ||| 0x4000#32, irst := false }

/-- Power-on reset (R680, R681): TLB, tags, write buffers and read buffer invalid, SCR cleared but for BM, MCA and MCM, RR
clear, the listed fault bits and the pointer valid bits clear, RC and IRC 0, CSEL latched (R654); the rest keeps its value
(log 33). -/
def powerOnCmu (c : Cmu) (csel : Bool) : Cmu :=
  { clearPointers c with
    scr := (c.scr &&& 0x00F00000#32) ||| 0x4000#32
    rr := 0
    sfsr := c.sfsr &&& 0x23E0#32
    afsr := c.afsr &&& 0xF0#32
    irc := 0
    rc := 0
    tlb := c.tlb.map fun e => { e with v := false }
    tags := (c.tags.map fun e => (e.1, { e.2 with v := false })).filter fun e => decide (e.2 ≠ Tag.reset)
    mptags := (c.mptags.map fun e => (e.1, { e.2 with v := false })).filter fun e => decide (e.2 ≠ MpTag.reset)
    wbuf := []
    rbuf := none
    boot := csel
    irst := false }

end Sys2Proof.Machine
end

