-- ==== Sys2Proof/Machine/Access.lean ====
section
/-! DEFINITION. The accesses of the IU: loads, stores, atomic exchanges and fetches, without a CMU and through one
(20_memory.md R66 to R79, 21_mmu_cache.md R611 to R614, R630, R631). -/
namespace Sys2Proof.Machine

/-- What a read gives: the datum in the low bits, and the places it stands at, in memory and in the cache. -/
structure Loaded where
  value : DWord
  places : List CodePlace
deriving DecidableEq, Repr

/-- A free datum of a size, the bits above it 0: what a load with no responder gives (20_memory.md R70, log 24). The two words of
a doubleword are drawn apart. -/
def freeDatum (s : State) (va : Word) (size : Size) : DWord :=
  let w := drawWord s (if va.getLsbD 2 then .noAnswerLow else .noAnswer)
  match size with
  | .byte => (w.extractLsb' 0 8).setWidth 64
  | .half => (w.extractLsb' 0 16).setWidth 64
  | .word => w.setWidth 64
  | .double => drawWord s .noAnswer ++ drawWord s .noAnswerLow

/-- Remember the old contents of the words a store changes, for the fetches of the next four instructions
(70_reset_and_hazards.md R516, log 10). `old` is the content before the store of the datum's aligned words; `place` says where
a key stands, in memory or in the cache. -/
def noteStore (s : State) (place : Nat → CodePlace) (key : Nat) (size : Size) (old : DWord) : State :=
  let entry (k : Nat) (w : Word) : CodeEdit := { place := place k, old := w, left := 5 }
  match size with
  | .double =>
    { s with codeHist := entry key (old.extractLsb' 32 32) :: entry (key + 4) (old.extractLsb' 0 32) :: s.codeHist }
  | _ => { s with codeHist := entry (key / 4 * 4) (old.extractLsb' 0 32) :: s.codeHist }

/-- The size of the aligned datum whose words a store of a size may change. -/
def wordsOf : Size → Size
  | .double => .double
  | _ => .word

/-! ## Without a CMU -/

/-- The address space on the pins: the CY7C611 brings out ASI<2:0> (20_memory.md R71, log 25). -/
def pinAsi (s : State) (asi : Asi) : Asi :=
  match s.plat.iu with
  | .cy7c601 => asi
  | .cy7c611 => asi &&& 7#8

/-- The address on the pins: the CY7C611 brings out A<23:0> (20_memory.md R71, log 25). -/
def pinAddress (s : State) (va : Word) : Nat :=
  match s.plat.iu with
  | .cy7c601 => va.toNat
  | .cy7c611 => (va.extractLsb' 0 24).toNat

/-- The bank an address space names: the four standard spaces are one memory; any other is the platform's `AsiSpace`
(20_memory.md R70, 92_eei_decisions.md D9, log 24). -/
def bareBank (s : State) (asi : Asi) : Option Nat :=
  let a := pinAsi s asi
  let standard : Bool := match s.plat.iu with
    | .cy7c601 => decide (a.extractLsb' 2 6 = 2#6)
    | .cy7c611 => decide (a.extractLsb' 2 6 = 0#6)
  if standard then some 0 else (s.plat.asiSpace.find? fun e => e.1 = a).map Prod.snd

/-- Whether the memory system answers an access with a memory exception: `MemFault` (20_memory.md R74, log 26). -/
def memException (s : State) (read write fetch : Bool) (asi : Asi) (va : Word) (size : Size) : Bool :=
  let pa := pinAddress s va
  s.plat.memFault.any fun f =>
    decide (f.asi = pinAsi s asi) && decide (f.lo < pa + size.bytes) && decide (pa ≤ f.hi) &&
      ((read && f.onRead) || (write && f.onWrite) || (fetch && f.onFetch))

/-- A read without a CMU. -/
def bareRead (s : State) (fetch : Bool) (asi : Asi) (va : Word) (size : Size) : Option Loaded :=
  if memException s (!fetch) false fetch asi va size then none
  else
    match bareBank s asi with
    | some b =>
      let k := memKey b (pinAddress s va)
      some { value := datumAt s.mem k size, places := [.memory k] }
    | none => some { value := freeDatum s va size, places := [] }

/-- Store a datum at a key of memory, remembering the old words. -/
def storeAt (s : State) (k : Nat) (size : Size) (v : DWord) : State :=
  let old := datumAt s.mem (k / 4 * 4) (wordsOf size)
  { noteStore s .memory k size old with mem := setDatum s.mem k size v }

/-- A store without a CMU; `none` is a memory exception, with nothing changed. -/
def bareStore (s : State) (asi : Asi) (va : Word) (size : Size) (v : DWord) : Option State :=
  if memException s false true false asi va size then none
  else
    match bareBank s asi with
    | some b => some (storeAt s (memKey b (pinAddress s va)) size v)
    | none => some s

/-- An atomic exchange without a CMU: one indivisible step; an exception of either half leaves everything unchanged
(20_memory.md R76, 40_load_store.md R150). -/
def bareExchange (s : State) (asi : Asi) (va : Word) (size : Size) (v : DWord) : Option (State × DWord) :=
  if memException s true true false asi va size then none
  else
    match bareBank s asi with
    | some b =>
      let k := memKey b (pinAddress s va)
      some (storeAt s k size v, datumAt s.mem k size)
    | none => some (s, freeDatum s va size)

/-! ## Through a CMU -/

/-- What an address space is on the CMU (21_mmu_cache.md R611, R630). -/
inductive CmuSpace where
  /-- UN or RES: the CMU ignores it. -/
  | silent
  /-- An untranslated, uncached access: local, by-pass, pass-through or boot mode. -/
  | direct (bank pa : Nat)
  | translated
  | flushProbe
  | registers
  | tlb
  | tags
  | data
  | flush (k : Nat)
  | mptags
deriving DecidableEq, Repr

/-- Whether this CMU answers an access: with MV = 1 by VA[17:16], MCA and MCM, before that where it is the boot-mode CMU
(22 R654, log 41). -/
def Cmu.answers (c : Cmu) (va : Word) : Bool :=
  if c.mv then decide ((va.extractLsb' 16 2 ^^^ c.mca) &&& ~~~c.mcm = 0) else c.boot

/-- The route of an access that this CMU answers (21_mmu_cache.md R611 to R614, R630, R631). -/
def answeredSpace (s : State) (asi : Asi) (va : Word) : CmuSpace :=
  let c := s.cmu
  match asi.toNat with
  | 0x01 => .direct (mblBank s true) va.toNat
  | 0x03 => .flushProbe
  | 0x04 => .registers
  | 0x06 => .tlb
  | 0x08 | 0x09 =>
    if c.bm then .direct (mblBank s true) (0xFF#8 ++ va.extractLsb' 0 28).toNat
    else if c.me then .translated else .direct 0 va.toNat
  | 0x0A | 0x0B => if c.me then .translated else .direct (mblBank s c.bm) va.toNat
  | 0x0E => .tags
  | 0x0F => .data
  | 0x10 => .flush 0
  | 0x11 => .flush 1
  | 0x12 => .flush 2
  | 0x13 => .flush 3
  | 0x14 => .flush 4
  | 0x30 => if is605 s then .mptags else .silent
  | n => if n / 16 = 2 then .direct 0 (n % 16 * 2 ^ 32 + va.toNat) else .silent

/-- The route of an access: a CMU that does not answer ignores it, but for accesses to the SCR of a CMU that is not the
boot-mode one, before MV is set (22 R654). -/
def cmuSpace (s : State) (asi : Asi) (va : Word) : CmuSpace :=
  if s.cmu.answers va then answeredSpace s asi va
  else if !s.cmu.mv && asi = 0x04 && va.extractLsb' 0 16 = 0 then .registers
  else .silent

/-- The access type recorded for a fault: free for an address space that has none (22 R663, log 48). -/
def recordedType (s : State) (asi : Asi) (write : Bool) : BitVec 3 :=
  if asi.extractLsb' 2 6 = 2#6 then accessType asi write else BitVec.ofNat 3 (drawNat s .cmuAccess)

/-- Record a synchronous fault of an access. -/
def recordFault (s : State) (f : SyncFault) (asi : Asi) (write : Bool) (va : Word) : State :=
  recordSync s f (recordedType s asi write) va

/-- SCR.NF keeps every fault of a supervisor data access, ASI 0x0B, from the IU (22 R660, log 35). -/
def suppressed (s : State) (asi : Asi) : Bool := s.cmu.nf && asi = 0x0B

/-- The end of an access that met a fault, in the state `s1`: the fault is recorded, and the IU sees a memory exception, or, where
NF keeps it away, a free datum. -/
def faulted (s s1 : State) (f : SyncFault) (asi : Asi) (write : Bool) (va : Word) (size : Size) : State × Option DWord :=
  (recordFault s1 f asi write va, if suppressed s asi then some (freeDatum s va size) else none)

/-- Whether an access to a page goes through the cache (21_mmu_cache.md R611, R624). -/
def throughCache (s : State) (page : Page) : Bool := s.cmu.ce && page.c

/-- Where the bytes of an access to a page stand: in memory, and in the cache where it now holds them. -/
def pagePlaces (s : State) (va : Word) (sup : Bool) (page : Page) : List CodePlace :=
  let m := CodePlace.memory (memKey 0 (page.address va))
  if throughCache s page && cacheHit s va sup then [m, .cache (dataKey va)] else [m]

/-- The platform's answer in an address space the CMU ignores (21_mmu_cache.md R631). -/
def silentBank (s : State) (asi : Asi) : Option Nat := (s.plat.asiSpace.find? fun e => e.1 = asi).map Prod.snd

/-- A read of one of the CMU's own spaces; `none` where the spec gives the access no meaning. -/
def cmuSpaceRead (s : State) (space : CmuSpace) (va : Word) (size : Size) : Option (State × DWord) :=
  match space, size with
  | .flushProbe, .word => let r := probe s va; some (r.1, r.2.setWidth 64)
  | .registers, .word => (readCmuReg s (va.extractLsb' 0 16).toNat).map fun r => (r.1, r.2.setWidth 64)
  | .tlb, .word => (readTlb s va).map fun w => (s, w.setWidth 64)
  | .tags, .word => some (s, (tagWord s (tagAt s (lineIndex va))).setWidth 64)
  | .mptags, .word => some (s, (mptagWord s (mptagAt s (lineIndex va))).setWidth 64)
  | .data, _ => some (s, datumAt s.cmu.data (dataKey va) size)
  | _, _ => none

/-- A load or fetch of at most a word through a CMU, or of any size in one of its own spaces; no value is a memory exception,
whose records are in the state. -/
def cmuRead (s : State) (asi : Asi) (va : Word) (size : Size) : State × Option Loaded :=
  let answer (t : State) (v : DWord) (p : List CodePlace) : State × Option Loaded := (t, some { value := v, places := p })
  let fault (t : State) (f : SyncFault) : State × Option Loaded :=
    let r := faulted s t f asi false va size
    (r.1, r.2.map fun v => { value := v, places := [] })
  match cmuSpace s asi va with
  | .silent =>
    match silentBank s asi with
    | some b =>
      let s1 := settleRead s b va.toNat size.bytes
      answer s1 (datumAt s1.mem (memKey b va.toNat) size) [.memory (memKey b va.toNat)]
    | none => answer s (freeDatum s va size) []
  | .direct bank pa =>
    match busRead s bank pa size with
    | (s1, .ok v) => answer s1 v [.memory (memKey bank pa)]
    | (s1, .error f) => fault s1 f
  | .translated =>
    let sup := asiSupervisor asi
    match translate s va s.cmu.context sup (.access (accessType asi false)) with
    | (s1, .error f) => fault s1 f
    | (s1, .ok page) =>
      match if throughCache s1 page then cachedRead s1 va sup page size else busRead s1 0 (page.address va) size with
      | (s2, .ok v) => answer s2 v (pagePlaces s2 va sup page)
      | (s2, .error f) => fault s2 f
  | space =>
    match cmuSpaceRead s space va size with
    | some (s1, v) => answer s1 v []
    | none => answer s (freeDatum s va size) []

/-- The old words under a store to memory, as the IU sees them: behind the write buffers. -/
def oldAt (s : State) (key : Nat) (size : Size) : DWord := datumAt (bufferedMem s) (key / 4 * 4) (wordsOf size)

/-- The old words under a store to the cache data. -/
def oldInCache (s : State) (va : Word) (size : Size) : DWord := datumAt s.cmu.data (dataKey va / 4 * 4) (wordsOf size)

/-- The old words under an atomic access to a page that loaded `d` and led from `s` to `t`: from the cache where it held them or
where the miss put them there, from memory or, for an alias, by its new tag alone; else from memory. -/
def oldWords (s t : State) (va : Word) (sup : Bool) (page : Page) (size : Size) (d : DWord) : DWord :=
  if throughCache s page && cacheHit s va sup then oldInCache s va size
  else if throughCache s page && cacheHit t va sup then
    oldInCache (withData t (setDatum t.cmu.data (dataKey va) size d)) va size
  else oldAt s (memKey 0 (page.address va)) size

/-- A datum stored in the cache data by the diagnostic space, which is noted there for the fetches that follow
(22 R675, 70_reset_and_hazards.md R516). -/
def storeData (s : State) (va : Word) (size : Size) (v : DWord) : State :=
  noteStore (withData s (setDatum s.cmu.data (dataKey va) size v)) .cache (dataKey va) size (oldInCache s va size)

/-- A store to one of the CMU's own spaces, of any size the space takes; a failing flush is a synchronous fault. -/
def cmuSpaceStore (s : State) (space : CmuSpace) (va : Word) (size : Size) (v : DWord) : State × Option SyncFault :=
  let w := v.extractLsb' 0 32
  match space with
  | .flushProbe => (tlbFlush s va, none)
  | .registers =>
    let a := (va.extractLsb' 0 16).toNat
    let s1 := settleSer s a w
    match size, writeCmuReg s1 a w with
    | .word, some c => (withCmu s1 c, none)
    | _, _ => (withCmu s (scrambleRegs s), none)
  | .tlb =>
    match size, writeTlb s va w with
    | .word, some c => (withCmu s c, none)
    | _, _ => (withCmu s (scrambleTlb s), none)
  | .tags =>
    let w' := if size = .word then w else drawWord s .cmuFlushTag
    (setTag s (lineIndex va) (tagOfWord s w'), none)
  | .mptags =>
    let w' := if size = .word then w else drawWord s .cmuFlushTag
    (setMpTag s (lineIndex va) (mptagOfWord w'), none)
  | .data => (storeData s va size v, none)
  | .flush k => flushLine s k va
  | _ => (s, none)

/-- The first half of a store of at most a word to memory through the CMU: the route, the translation and the line of the cache.
The datum is stored nowhere yet; no target is a memory exception (21_mmu_cache.md R611 to R614). -/
def openStore (s : State) (asi : Asi) (va : Word) (size : Size) : State × Option StoreTarget :=
  let fault (t : State) (f : SyncFault) : State × Option StoreTarget :=
    let r := faulted s t f asi true va size
    (r.1, r.2.map fun _ => .nowhere)
  match cmuSpace s asi va with
  | .direct bank pa => (s, some (.memory bank pa))
  | .translated =>
    let sup := asiSupervisor asi
    match translate s va s.cmu.context sup (.access (accessType asi true)) with
    | (s1, .error f) => fault s1 f
    | (s1, .ok page) =>
      match if throughCache s1 page then cachedTarget s1 va sup page else (s1, .ok (.memory 0 (page.address va))) with
      | (s2, .ok t) => (s2, some t)
      | (s2, .error f) => fault s2 f
  | _ => (s, some .nowhere)

/-- Remember the old words of a store that was opened in the state `s`, as the IU saw them: in the cache where the store goes
there, else behind the write buffers. -/
def noteTarget (s u : State) (t : StoreTarget) (va : Word) (size : Size) : State :=
  match t with
  | .nowhere => u
  | .memory bank pa => noteStore u .memory (memKey bank pa) size (oldAt s (memKey bank pa) size)
  | .missed pa => noteStore u .memory (memKey 0 pa) size (oldAt s (memKey 0 pa) size)
  | .cache pa | .both pa => noteStore u .memory (memKey 0 pa) size (oldInCache s va size)

/-- The second half of a store: the datum goes to its target. -/
def closeStore (s : State) (t : StoreTarget) (va : Word) (size : Size) (v : DWord) : State :=
  noteTarget s (putStore s t va size v) t va size

/-- A store through a CMU; `false` is a memory exception. DESIGN CHOICE: where the table walk of a cache line flush fails, SFAR takes
the address of the flushing store, not that of the line; R650 says which for a cache miss alone (log 29). -/
def cmuStore (s : State) (asi : Asi) (va : Word) (size : Size) (v : DWord) : State × Bool :=
  match cmuSpace s asi va with
  | .silent =>
    match silentBank s asi with
    | some b => (storeAt (settleRead s b va.toNat size.bytes) (memKey b va.toNat) size v, true)
    | none => (s, true)
  | .direct .. | .translated =>
    match openStore s asi va size with
    | (s1, some t) => (closeStore s1 t va size v, true)
    | (s1, none) => (s1, false)
  | space =>
    match cmuSpaceStore s space va size v with
    | (s1, none) => (s1, true)
    | (s1, some f) =>
      let r := faulted s s1 f asi true va size
      (r.1, r.2.isSome)

/-- The second half of a doubleword store: the two words go to their targets, in memory through one buffer where they are
neighbours there (21_mmu_cache.md R625). No word is written where SCR.NF hides the fault of one of them
(92_eei_decisions.md D13, log 35). -/
def closePair (s : State) (hi lo : StoreTarget) (va : Word) (v : DWord) : State :=
  if hi = .nowhere ∨ lo = .nowhere then s
  else
    let w : DWord := (v.extractLsb' 32 32).setWidth 64
    let w' : DWord := (v.extractLsb' 0 32).setWidth 64
    let s1 := putCache (putCache s hi va .word w) lo (va + 4) .word w'
    let s2 :=
      if lo.place = hi.place.map (fun p => (p.1, p.2 + 4)) then putMemory s1 hi.place (datumBytes v .double)
      else putMemory (putMemory s1 hi.place (datumBytes w .word)) lo.place (datumBytes w' .word)
    noteTarget s (noteTarget s s2 hi va .word) lo (va + 4) .word

/-- A doubleword store to memory through a CMU: two word accesses, the one at the address, then the one four bytes on; neither
word is written where either access meets a memory exception (20_memory.md R75, 92_eei_decisions.md D10, D13, log 21). -/
def cmuStorePair (s : State) (asi : Asi) (va : Word) (v : DWord) : State × Bool :=
  match openStore s asi va .word with
  | (s1, none) => (s1, false)
  | (s1, some hi) =>
    match openStore (refresh s1) asi (va + 4) .word with
    | (s2, none) => (s2, false)
    | (s2, some lo) => (closePair s2 hi lo va v, true)

/-- Whether an access goes to memory through the CMU, not to a space of the CMU's own or of the platform's. -/
def memorySpace (s : State) (asi : Asi) (va : Word) : Bool :=
  match cmuSpace s asi va with
  | .direct .. | .translated => true
  | _ => false

/-- An atomic exchange through a CMU (21_mmu_cache.md R626); no value is a memory exception. On the CMU's own spaces it is not
described: a free value, and the store's effect, free where the spec gives none (log 34). DESIGN CHOICE: a fault of either half, a
bus error on the read too, is recorded with the AT of a store; R606 makes a load-store a write for the access check alone, and R663
does not say (log 48). -/
def cmuExchange (s : State) (asi : Asi) (va : Word) (size : Size) (v : DWord) : State × Option DWord :=
  let free : Option DWord := some (freeDatum s va size)
  let fault (t : State) (f : SyncFault) : State × Option DWord := faulted s t f asi true va size
  match cmuSpace s asi va with
  | .silent =>
    match silentBank s asi with
    | some b =>
      let s1 := drainAll s
      (storeAt s1 (memKey b va.toNat) size v, some (datumAt s1.mem (memKey b va.toNat) size))
    | none => (s, free)
  | .direct bank pa =>
    match lockedExchange s bank pa size v with
    | (s1, .ok d) => (noteStore s1 .memory (memKey bank pa) size (oldAt s (memKey bank pa) size), some d)
    | (s1, .error f) => fault s1 f
  | .translated =>
    let sup := asiSupervisor asi
    match translate s va s.cmu.context sup (.access (accessType asi true)) with
    | (s1, .error f) => fault s1 f
    | (s1, .ok page) =>
      match if throughCache s1 page then cachedExchange s1 va sup page size v
        else lockedExchange s1 0 (page.address va) size v with
      | (s2, .ok d) => (noteStore s2 .memory (memKey 0 (page.address va)) size (oldWords s1 s2 va sup page size d), some d)
      | (s2, .error f) => fault s2 f
  | .registers => (withCmu s (scrambleRegs s), free)
  | .tlb => (withCmu s (scrambleTlb s), free)
  | .data => (storeData s va size v, some (datumAt s.cmu.data (dataKey va) size))
  | .tags => (setTag s (lineIndex va) (tagOfWord s (drawWord s .cmuFlushTag)), free)
  | .mptags => (setMpTag s (lineIndex va) (mptagOfWord (drawWord s .cmuFlushTag)), free)
  | space =>
    match cmuSpaceStore s space va size v with
    | (s1, none) => (s1, free)
    | (s1, some f) => fault s1 f

/-! ## The accesses of the IU -/

/-- The CMU of the machine: none beside a CY7C611, whose three ASI pins cannot select one (log 25). -/
def hasCmu (s : State) : Bool := s.plat.cmu ≠ .none && s.plat.iu = .cy7c601

/-- A data read that is one bus transfer, of at most a word: the state after it and the datum, or no datum for a memory
exception (20_memory.md R74, R75). -/
def readOne (s : State) (asi : Asi) (va : Word) (size : Size) : State × Option DWord :=
  if hasCmu s then
    let r := cmuRead s asi va size
    (r.1, r.2.map Loaded.value)
  else (s, (bareRead s false asi va size).map Loaded.value)

/-- The CMU's own spaces that take words alone: an access of any other size has no meaning there (22 R640, log 34). -/
def wordSpace (s : State) (asi : Asi) (va : Word) : Bool :=
  hasCmu s && match cmuSpace s asi va with
    | .silent | .direct .. | .translated | .data => false
    | _ => true

/-- A doubleword read: the word at the address, then the word four bytes on; no datum where either meets a memory exception
(20_memory.md R75, 92_eei_decisions.md D10, D13). -/
def readPair (s : State) (asi : Asi) (va : Word) : State × Option DWord :=
  match readOne s asi va .word with
  | (s1, none) => (s1, none)
  | (s1, some hi) =>
    match readOne (if hasCmu s then refresh s1 else s1) asi (va + 4) .word with
    | (s2, none) => (s2, none)
    | (s2, some lo) => (s2, some (hi.setWidth 32 ++ lo.setWidth 32))

/-- A data read in an address space: the state after it and the datum, or no datum for a memory exception
(20_memory.md R74, R75). -/
def readMem (s : State) (asi : Asi) (va : Word) (size : Size) : State × Option DWord :=
  match size with
  | .double => if wordSpace s asi va then readOne s asi va .double else readPair s asi va
  | _ => readOne s asi va size

/-- A data write in an address space: the state after it, and whether the memory system accepted it. A doubleword is two word
accesses (20_memory.md R75); without a CMU, and in a space that is not the CMU's memory, they meet no state between them, and
one access of eight bytes does the same (92_eei_decisions.md D13, log 21). -/
def writeMem (s : State) (asi : Asi) (va : Word) (size : Size) (v : DWord) : State × Bool :=
  if hasCmu s then
    if size = .double && memorySpace s asi va then cmuStorePair s asi va v else cmuStore s asi va size v
  else
    match bareStore s asi va size v with
    | some s1 => (s1, true)
    | none => (s, false)

/-- A read and a write of one place as one indivisible step (20_memory.md R76): the old datum, or none for a memory
exception. -/
def exchangeMem (s : State) (asi : Asi) (va : Word) (size : Size) (v : DWord) : State × Option DWord :=
  if hasCmu s then cmuExchange s asi va size v
  else
    match bareExchange s asi va size v with
    | some (s1, d) => (s1, some d)
    | none => (s, none)

/-- The address space of a fetch (20_memory.md R71, R73). -/
def instrAsi (s : State) : Asi := if usePsr s Psr.s .fetch then 0x09 else 0x08

/-- The address space of a data access that is not alternate (20_memory.md R71). -/
def dataAsi (s : State) : Asi := if usePsr s Psr.s .asi then 0x0B else 0x0A

/-- The word a fetch sees: the one in memory, or, where one of the previous four instructions stored into it, it or one of its
old contents, freely (70_reset_and_hazards.md R516, log 10). -/
def fetchedWord (s : State) (r : Loaded) : Word :=
  let new := r.value.setWidth 32
  let olds := (s.codeHist.filter fun e => r.places.contains e.place).map CodeEdit.old
  if olds.all fun w => decide (w = new) then new
  else (new :: olds).getD (drawNat s .codeWord % (olds.length + 1)) new

/-- The fetch of the instruction at PC: the state after it, and the word or none for a memory exception
(20_memory.md R73). Through a CMU it has free values of its own. -/
def fetch (s : State) : State × Option Word :=
  if hasCmu s then
    let r := cmuRead s (instrAsi s) s.pc .word
    (refresh r.1, r.2.map (fetchedWord s))
  else (s, (bareRead s true (instrAsi s) s.pc .word).map (fetchedWord s))

end Sys2Proof.Machine
end

