-- ==== Sys2Proof/Machine/LoadStore.lean ====
section
/-! DEFINITION. Integer loads, stores and atomic load-stores (40_load_store.md R100 to R138, R150 to R153). -/
namespace Sys2Proof.Machine

/-! ## The shapes of an access -/

/-- A load: alignment, the access, then what `k` does with the datum (R100, R101). -/
def loadWith (asi : Asi) (ea : Word) (size : Size) (s : State) (k : State → DWord → State) : Result :=
  if misaligned ea size then .next (raise s ttNotAligned)
  else
    match readMem s asi ea size with
    | (s1, some v) => .next (advance (k s1 v))
    | (s1, none) => .next (raise s1 ttDataAccess)

/-- A store: alignment, the access of a datum, then what `k` does when it is accepted (R100, R101). -/
def storeWith (asi : Asi) (ea : Word) (size : Size) (v : DWord) (s : State) (k : State → State) : Result :=
  if misaligned ea size then .next (raise s ttNotAligned)
  else
    match writeMem s asi ea size v with
    | (s1, true) => .next (advance (k s1))
    | (s1, false) => .next (raise s1 ttDataAccess)

/-- An atomic load-store: alignment, the exchange, then `r[rd]` ← the old datum (R150 to R153). -/
def exchangeWith (asi : Asi) (ea : Word) (size : Size) (v : DWord) (rd : Reg) (s : State) : Result :=
  if misaligned ea size then .next (raise s ttNotAligned)
  else
    match exchangeMem s asi ea size v with
    | (s1, some old) => .next (finish s1 rd (old.setWidth 32))
    | (s1, none) => .next (raise s1 ttDataAccess)

/-- The alternate-space forms are privileged (R104). Their i = 1 form is no instruction of `Instr`: the step takes its
illegal_instruction. -/
def alternate (s : State) (k : Result) : Result := if supervisor s then k else .next (raise s ttPrivileged)

/-- The low byte, sign-extended (R110). -/
def signedByte (v : DWord) : Word := (v.extractLsb' 0 8).signExtend 32
/-- The low halfword, sign-extended (R111). -/
def signedHalf (v : DWord) : Word := (v.extractLsb' 0 16).signExtend 32
/-- The low word, or a smaller datum zero-extended. -/
def lowWord (v : DWord) : Word := v.extractLsb' 0 32
/-- The high word of a doubleword. -/
def highWord (v : DWord) : Word := v.extractLsb' 32 32

/-- A load into one register (R102). -/
def loadReg (conv : DWord → Word) (asi : Asi) (ea : Word) (size : Size) (rd : Reg) (s : State) : Result :=
  loadWith asi ea size s fun s1 v => writeReg s1 .rd rd (conv v)

/-- A load into a register pair, the word at EA in the even register (R103). -/
def loadPair (asi : Asi) (ea : Word) (rd : Reg) (s : State) : Result :=
  loadWith asi ea .double s fun s1 v =>
    writeReg (writeReg s1 .rd (evenReg rd) (highWord v)) .rdLow (oddReg rd) (lowWord v)

/-- A store of the low part of a register (R102). -/
def storeReg (asi : Asi) (ea : Word) (size : Size) (rd : Reg) (s : State) : Result :=
  storeWith asi ea size ((readReg s .rd rd).setWidth 64) s id

/-- A store of a register pair, the even register at EA (R103). -/
def storePair (asi : Asi) (ea : Word) (rd : Reg) (s : State) : Result :=
  storeWith asi ea .double (readReg s .rd (evenReg rd) ++ readReg s .rdLow (oddReg rd)) s id

/-! ## The instructions -/

/-- LDSB (R110). -/
def execLdsb (rd rs1 : Reg) (op2 : RegOrImm) (s : State) : Result :=
  loadReg signedByte (dataAsi s) (addressOf s rs1 op2) .byte rd s

/-- LDSH (R111). -/
def execLdsh (rd rs1 : Reg) (op2 : RegOrImm) (s : State) : Result :=
  loadReg signedHalf (dataAsi s) (addressOf s rs1 op2) .half rd s

/-- LDUB (R112). -/
def execLdub (rd rs1 : Reg) (op2 : RegOrImm) (s : State) : Result :=
  loadReg lowWord (dataAsi s) (addressOf s rs1 op2) .byte rd s

/-- LDUH (R113). -/
def execLduh (rd rs1 : Reg) (op2 : RegOrImm) (s : State) : Result :=
  loadReg lowWord (dataAsi s) (addressOf s rs1 op2) .half rd s

/-- LD (R114). -/
def execLd (rd rs1 : Reg) (op2 : RegOrImm) (s : State) : Result :=
  loadReg lowWord (dataAsi s) (addressOf s rs1 op2) .word rd s

/-- LDD (R115). -/
def execLdd (rd rs1 : Reg) (op2 : RegOrImm) (s : State) : Result :=
  loadPair (dataAsi s) (addressOf s rs1 op2) rd s

/-- LDSBA (R116). -/
def execLdsba (rd rs1 rs2 : Reg) (asi : Asi) (s : State) : Result :=
  alternate s (loadReg signedByte asi (alternateAddress s rs1 rs2) .byte rd s)

/-- LDSHA (R117). -/
def execLdsha (rd rs1 rs2 : Reg) (asi : Asi) (s : State) : Result :=
  alternate s (loadReg signedHalf asi (alternateAddress s rs1 rs2) .half rd s)

/-- LDUBA (R118). -/
def execLduba (rd rs1 rs2 : Reg) (asi : Asi) (s : State) : Result :=
  alternate s (loadReg lowWord asi (alternateAddress s rs1 rs2) .byte rd s)

/-- LDUHA (R119). -/
def execLduha (rd rs1 rs2 : Reg) (asi : Asi) (s : State) : Result :=
  alternate s (loadReg lowWord asi (alternateAddress s rs1 rs2) .half rd s)

/-- LDA (R120). -/
def execLda (rd rs1 rs2 : Reg) (asi : Asi) (s : State) : Result :=
  alternate s (loadReg lowWord asi (alternateAddress s rs1 rs2) .word rd s)

/-- LDDA (R121). -/
def execLdda (rd rs1 rs2 : Reg) (asi : Asi) (s : State) : Result :=
  alternate s (loadPair asi (alternateAddress s rs1 rs2) rd s)

/-- STB (R125). -/
def execStb (rd rs1 : Reg) (op2 : RegOrImm) (s : State) : Result :=
  storeReg (dataAsi s) (addressOf s rs1 op2) .byte rd s

/-- STH (R126). -/
def execSth (rd rs1 : Reg) (op2 : RegOrImm) (s : State) : Result :=
  storeReg (dataAsi s) (addressOf s rs1 op2) .half rd s

/-- ST (R127). -/
def execSt (rd rs1 : Reg) (op2 : RegOrImm) (s : State) : Result :=
  storeReg (dataAsi s) (addressOf s rs1 op2) .word rd s

/-- STD (R128). -/
def execStd (rd rs1 : Reg) (op2 : RegOrImm) (s : State) : Result :=
  storePair (dataAsi s) (addressOf s rs1 op2) rd s

/-- STBA (R129). -/
def execStba (rd rs1 rs2 : Reg) (asi : Asi) (s : State) : Result :=
  alternate s (storeReg asi (alternateAddress s rs1 rs2) .byte rd s)

/-- STHA (R130). -/
def execStha (rd rs1 rs2 : Reg) (asi : Asi) (s : State) : Result :=
  alternate s (storeReg asi (alternateAddress s rs1 rs2) .half rd s)

/-- STA (R131). -/
def execSta (rd rs1 rs2 : Reg) (asi : Asi) (s : State) : Result :=
  alternate s (storeReg asi (alternateAddress s rs1 rs2) .word rd s)

/-- STDA (R132). -/
def execStda (rd rs1 rs2 : Reg) (asi : Asi) (s : State) : Result :=
  alternate s (storePair asi (alternateAddress s rs1 rs2) rd s)

/-- LDSTUB (R150). -/
def execLdstub (rd rs1 : Reg) (op2 : RegOrImm) (s : State) : Result :=
  exchangeWith (dataAsi s) (addressOf s rs1 op2) .byte 0xFF rd s

/-- LDSTUBA (R151). -/
def execLdstuba (rd rs1 rs2 : Reg) (asi : Asi) (s : State) : Result :=
  alternate s (exchangeWith asi (alternateAddress s rs1 rs2) .byte 0xFF rd s)

/-- SWAP (R152). -/
def execSwap (rd rs1 : Reg) (op2 : RegOrImm) (s : State) : Result :=
  exchangeWith (dataAsi s) (addressOf s rs1 op2) .word ((readReg s .rdLow rd).setWidth 64) rd s

/-- SWAPA (R153). -/
def execSwapa (rd rs1 rs2 : Reg) (asi : Asi) (s : State) : Result :=
  alternate s (exchangeWith asi (alternateAddress s rs1 rs2) .word ((readReg s .rdLow rd).setWidth 64) rd s)

end Sys2Proof.Machine
end

