-- ==== Sys2Proof/Machine/Coproc.lean ====
section
/-! DEFINITION. The second coprocessor's instructions: CPops, coprocessor loads and stores (45_coprocessor.md, 40_load_store.md
R159 to R166). What the coprocessor does is opaque (log 19). -/
namespace Sys2Proof.Machine

/-- The state after one of the coprocessor's loads took a trap: its registers and CSR, where there is a coprocessor, depend on its
implementation (R159); its mode and its queue are as they were (60_exceptions.md R440). -/
def cpLoadTrapped (s : State) : State :=
  if s.plat.cpPresent && s.plat.iu = .cy7c601 then
    withCp s (cpWithRegisters s.cp (Config.cpLoadTrap s.draws (cpRegisters s.cp)))
  else s

/-- The same after a data_access_exception, which leaves CSR and the destination registers unchanged (60_exceptions.md R411,
92_eei_decisions.md D13). -/
def cpLoadAborted (dest : List Reg) (s : State) : State :=
  let r := Config.cpLoadTrap s.draws (cpRegisters s.cp)
  withCp s { s.cp with c := Vector.ofFn fun i => if dest.contains (BitVec.ofFin i) then s.cp.c[i] else r.c[i] }

/-- A coprocessor load into the registers `dest` or CSR: cp_disabled, alignment, the coprocessor's hold, a pending exception, the
access (R159, 45_coprocessor.md R341). DESIGN CHOICE: in exception mode too the load is performed and the mode stays; R344 does not
say whether the coprocessor rejects it (log 19). -/
def cpLoad (dest : List Reg) (ea : Word) (size : Size) (s : State) (k : CpState → DWord → CpState) : Result :=
  if !cpEnabled s then .next (raise (cpLoadTrapped s) ttCpDisabled)
  else if misaligned ea size then .next (raise (cpLoadTrapped s) ttNotAligned)
  else
    let s1 := cpHeld s
    if s1.cp.mode = .pending then .next (raiseCpException (cpLoadTrapped s1))
    else
      match readMem s1 (dataAsi s1) ea size with
      | (s2, some v) => .next (advance (withCp s2 (k s2.cp v)))
      | (s2, none) => .next (raise (cpLoadAborted dest s2) ttDataAccess)

/-- A coprocessor store: cp_disabled, alignment, the coprocessor's hold, a pending exception, the access of the datum as it then
is (R159, 45_coprocessor.md R341). -/
def cpStore (ea : Word) (size : Size) (v : State → DWord) (s : State) (k : State → State) : Result :=
  if !cpEnabled s then .next (raise s ttCpDisabled)
  else if misaligned ea size then .next (raise s ttNotAligned)
  else
    let s1 := cpHeld s
    if s1.cp.mode = .pending then .next (raiseCpException s1) else storeWith (dataAsi s1) ea size (v s1) s1 k

/-- `c[n]`. -/
def readC (c : CpState) (n : Reg) : Word := c.c[n.toNat]'n.isLt

/-- Write `c[n]`. -/
def writeC (c : CpState) (n : Reg) (v : Word) : CpState := { c with c := c.c.set n.toNat v n.isLt }

/-- The first register that LDDC loads: forced even or not is the coprocessor's choice (R161). -/
def cpPair (n : Reg) : Reg := if n.getLsbD 0 && Config.cpForcesEven then evenReg n else n

/-- LDC (R160). -/
def execLdc (rd rs1 : Reg) (op2 : RegOrImm) (s : State) : Result :=
  cpLoad [rd] (addressOf s rs1 op2) .word s fun c v => writeC c rd (lowWord v)

/-- LDDC (R161). DESIGN CHOICE: with rd = 31 and a coprocessor that does not force it even, the second register, c[32] by
the rule, is c[0]; the spec does not say (log 19). -/
def execLddc (rd rs1 : Reg) (op2 : RegOrImm) (s : State) : Result :=
  cpLoad [cpPair rd, cpPair rd + 1] (addressOf s rs1 op2) .double s fun c v =>
    writeC (writeC c (cpPair rd) (highWord v)) (cpPair rd + 1) (lowWord v)

/-- CSR given a word: the writable bits take it, and CCC shows what the new CSR says; which bits they are is the coprocessor's
(R162, 45_coprocessor.md R340 (d), log 19). -/
def withCsr (c : CpState) (v : Word) : CpState :=
  cpWithRegisters c { (cpRegisters c) with csr := (v &&& Config.cpCsrMask) ||| (c.csr &&& ~~~Config.cpCsrMask) }

/-- LDCSR (R162). -/
def execLdcsr (rs1 : Reg) (op2 : RegOrImm) (s : State) : Result :=
  cpLoad [] (addressOf s rs1 op2) .word s fun c v => withCsr c (lowWord v)

/-- STC (R163). -/
def execStc (rd rs1 : Reg) (op2 : RegOrImm) (s : State) : Result :=
  cpStore (addressOf s rs1 op2) .word (fun s1 => (readC s1.cp rd).setWidth 64) s id

/-- STDC: an odd rd is forced even (R164, 92_eei_decisions.md D12). -/
def execStdc (rd rs1 : Reg) (op2 : RegOrImm) (s : State) : Result :=
  cpStore (addressOf s rs1 op2) .double (fun s1 => readC s1.cp (evenReg rd) ++ readC s1.cp (oddReg rd)) s id

/-- STCSR (R165). -/
def execStcsr (rs1 : Reg) (op2 : RegOrImm) (s : State) : Result :=
  cpStore (addressOf s rs1 op2) .word (fun s1 => s1.cp.csr.setWidth 64) s id

/-- The front entry of the coprocessor queue; two free words where it is empty (R166, log 19). -/
def cpFrontEntry (s : State) : DWord :=
  match s.cp.cq with
  | e :: _ => e.addr ++ e.instr
  | [] => drawWord s .queueAddr ++ drawWord s .queueInstr

/-- The coprocessor after STDCQ: its queue advances or not, and exception mode lasts until the queue is empty (R166,
45_coprocessor.md R340 (e), log 19). -/
def cpQueueStored (draws : Nat) (c : CpState) : CpState :=
  let cq := if Config.cpQueueAdvances draws c then c.cq.tail else c.cq
  { c with cq := cq, mode := if c.mode = .exception && cq.isEmpty then .execution else c.mode }

/-- STDCQ: privileged (R166). -/
def execStdcq (rs1 : Reg) (op2 : RegOrImm) (s : State) : Result :=
  if !supervisor s then .next (raise s ttPrivileged)
  else cpStore (addressOf s rs1 op2) .double cpFrontEntry s fun s1 => withCp s1 (cpQueueStored s.draws s1.cp)

/-- A CPop at the IU: cp_disabled, the coprocessor's hold, a pending exception, else the word and its address go to the coprocessor
(45_coprocessor.md R341, R343). -/
def cpop (instr : Word) (s : State) : Result :=
  if !cpEnabled s then .next (raise s ttCpDisabled)
  else
    let s1 := cpHeld s
    if s1.cp.mode = .pending then .next (raiseCpException s1)
    else .next (advance (withCp s1 (cpAccept s1.draws { addr := s1.pc, instr := instr } s1.cp)))

/-- CPop1 (45_coprocessor.md R343). -/
def execCpop1 (rd rs1 : Reg) (opc : BitVec 9) (rs2 : Reg) (s : State) : Result := cpop (encode (.cpop1 rd rs1 opc rs2)) s

/-- CPop2 (45_coprocessor.md R343). -/
def execCpop2 (rd rs1 : Reg) (opc : BitVec 9) (rs2 : Reg) (s : State) : Result := cpop (encode (.cpop2 rd rs1 opc rs2)) s

end Sys2Proof.Machine
end

