-- ==== Sys2Proof/Machine/FpArith.lean ====
section
/-! DEFINITION. Floating-point formats, exact arithmetic and rounding (44_floating_point.md R285 to R306). Patterns are natural
numbers; arithmetic is exact, and rounded once at the end. -/
namespace Sys2Proof.Machine

/-- A binary format: the widths of its exponent and fraction fields (R285). -/
structure FpFormat where
  ebits : Nat
  fbits : Nat
deriving DecidableEq, Repr

/-- Single precision (R285). -/
def FpFormat.single : FpFormat := { ebits := 8, fbits := 23 }
/-- Double precision (R285). -/
def FpFormat.double : FpFormat := { ebits := 11, fbits := 52 }

/-- The bias, also the largest true exponent. -/
def FpFormat.bias (f : FpFormat) : Nat := 2 ^ (f.ebits - 1) - 1
/-- The exponent field of infinities and NaNs. -/
def FpFormat.emax (f : FpFormat) : Nat := 2 ^ f.ebits - 1

/-- The sign of a pattern. -/
def FpFormat.sign (f : FpFormat) (x : Nat) : Bool := decide (x / 2 ^ (f.ebits + f.fbits) % 2 = 1)
/-- The exponent field. -/
def FpFormat.exp (f : FpFormat) (x : Nat) : Nat := x / 2 ^ f.fbits % 2 ^ f.ebits
/-- The fraction field. -/
def FpFormat.frac (f : FpFormat) (x : Nat) : Nat := x % 2 ^ f.fbits

/-- A NaN (R285). -/
def FpFormat.isNan (f : FpFormat) (x : Nat) : Bool := decide (f.exp x = f.emax) && decide (f.frac x ≠ 0)
/-- A signaling NaN: the first fraction bit is 0 (R285). -/
def FpFormat.isSignaling (f : FpFormat) (x : Nat) : Bool := f.isNan x && decide (f.frac x < 2 ^ (f.fbits - 1))
/-- A denormalized number (R285). -/
def FpFormat.isDenormal (f : FpFormat) (x : Nat) : Bool := decide (f.exp x = 0) && decide (f.frac x ≠ 0)

/-- The pattern of sign, exponent field and fraction field. -/
def FpFormat.pack (f : FpFormat) (s : Bool) (e m : Nat) : Nat := ((if s then 1 else 0) * 2 ^ f.ebits + e) * 2 ^ f.fbits + m

/-- Zero with a sign. -/
def FpFormat.zero (f : FpFormat) (s : Bool) : Nat := f.pack s 0 0
/-- Infinity with a sign. -/
def FpFormat.inf (f : FpFormat) (s : Bool) : Nat := f.pack s f.emax 0
/-- The largest finite number with a sign (R303). -/
def FpFormat.largest (f : FpFormat) (s : Bool) : Nat := f.pack s (f.emax - 1) (2 ^ f.fbits - 1)

/-- The value of an operand that is no NaN and not denormalized: zero, infinity, or (−1)^s × m × 2^e with m > 0. -/
inductive FpValue where
  | zero (s : Bool)
  | inf (s : Bool)
  | finite (s : Bool) (m : Nat) (e : Int)
deriving DecidableEq, Repr

/-- The value of a pattern; a denormalized number stands for a zero of its sign (R292). -/
def FpFormat.value (f : FpFormat) (x : Nat) : FpValue :=
  if f.exp x = f.emax then .inf (f.sign x)
  else if f.exp x = 0 then .zero (f.sign x)
  else .finite (f.sign x) (2 ^ f.fbits + f.frac x) ((f.exp x : Int) - f.bias - f.fbits)

/-- The sign of a value. -/
def FpValue.sign : FpValue → Bool
  | .zero s => s
  | .inf s => s
  | .finite s _ _ => s

/-- The value with its sign complemented. -/
def FpValue.neg : FpValue → FpValue
  | .zero s => .zero (!s)
  | .inf s => .inf (!s)
  | .finite s m e => .finite (!s) m e

/-- An exact result: a special value, or a finite one, where `sticky` says that the magnitude lies strictly between
m × 2^e and (m + 1) × 2^e. -/
inductive FpExact where
  | zero (s : Bool)
  | inf (s : Bool)
  | finite (s : Bool) (m : Nat) (e : Int) (sticky : Bool)
  | invalid
  | divByZero (s : Bool)
deriving DecidableEq, Repr

/-- How an FPop ends before its effects: the result pattern and the exceptions raised, or unfinished (R294). -/
inductive FpRounded where
  | value (x : Nat) (raised : FpExc)
  | unfinished
deriving DecidableEq, Repr

/-- nv alone (R301). -/
def FpExc.invalid : FpExc := { FpExc.none with nv := true }
/-- dz alone (R302). -/
def FpExc.divZero : FpExc := { FpExc.none with dz := true }
/-- of and nx (R303). -/
def FpExc.overflow : FpExc := { FpExc.none with of := true, nx := true }
/-- nx, where the flag says so (R304). -/
def FpExc.inexact (b : Bool) : FpExc := { FpExc.none with nx := b }

/-- Whether the magnitude is rounded away from zero: `q` is the truncated significand, `r` the remainder below it against
`half`, by the rounding direction RD (R288). -/
def roundUp (rd : BitVec 2) (s : Bool) (q r half : Nat) (sticky : Bool) : Bool :=
  let inexact := decide (r ≠ 0) || sticky
  match rd.toNat with
  | 0 => decide (half < r) || (decide (r = half) && (sticky || decide (q % 2 = 1)))
  | 1 => false
  | 2 => inexact && !s
  | _ => inexact && s

/-- The result of an overflow, by RD and the sign (R303). -/
def overflowResult (f : FpFormat) (rd : BitVec 2) (s : Bool) : Nat :=
  match rd.toNat with
  | 0 => f.inf s
  | 1 => f.largest s
  | 2 => if s then f.largest s else f.inf s
  | _ => if s then f.inf s else f.largest s

/-- Round a finite exact result, tiny or not, to a format (R288, R291, R293, R303, R304). -/
def roundFinite (f : FpFormat) (rd : BitVec 2) (ns s : Bool) (m : Nat) (e : Int) (sticky : Bool) : FpRounded :=
  let p := f.fbits + 1
  let top : Int := (m.log2 : Int) + e
  if top < 1 - (f.bias : Int) then
    if ns then .value (f.zero s) (.inexact true) else .unfinished
  else
    let shift := m.log2 + 1 - p
    let m' := if m.log2 + 1 < p then m * 2 ^ (p - (m.log2 + 1)) else m
    let q := m' / 2 ^ shift
    let r := m' % 2 ^ shift
    let up := if shift = 0 then false else roundUp rd s q r (2 ^ (shift - 1)) sticky
    let q1 := if up then q + 1 else q
    let carry := decide (q1 = 2 ^ p)
    let q2 := if carry then 2 ^ f.fbits else q1
    let top1 := if carry then top + 1 else top
    if (f.bias : Int) < top1 then .value (overflowResult f rd s) .overflow
    else .value (f.pack s (top1 + f.bias).toNat (q2 - 2 ^ f.fbits)) (.inexact (decide (r ≠ 0) || sticky))

/-- Round an exact result; an invalid operation gives the quiet NaN `qnan` (R301), a division by zero an infinity (R302). -/
def roundExact (f : FpFormat) (rd : BitVec 2) (ns : Bool) (qnan : Nat) : FpExact → FpRounded
  | .zero s => .value (f.zero s) .none
  | .inf s => .value (f.inf s) .none
  | .finite s m e sticky => roundFinite f rd ns s m e sticky
  | .invalid => .value qnan .invalid
  | .divByZero s => .value (f.inf s) .divZero

/-! ## The operations on values -/

/-- The signed integer (−1)^s × m. -/
def signed (s : Bool) (m : Nat) : Int := if s then -(m : Int) else m

/-- The sign of an exact zero sum of operands that are not both zeros of one sign (R287 ii). -/
def zeroSumSign (rd : BitVec 2) : Bool := rd = 3

/-- The sum (R287, R301). -/
def fpAdd (rd : BitVec 2) : FpValue → FpValue → FpExact
  | .inf s, .inf t => if s = t then .inf s else .invalid
  | .inf s, _ => .inf s
  | _, .inf t => .inf t
  | .zero s, .zero t => .zero (if s = t then s else zeroSumSign rd)
  | .zero _, .finite t n d => .finite t n d false
  | .finite s m e, .zero _ => .finite s m e false
  | .finite s m e, .finite t n d =>
    let low := min e d
    let sum := signed s (m * 2 ^ (e - low).toNat) + signed t (n * 2 ^ (d - low).toNat)
    if sum = 0 then .zero (zeroSumSign rd) else .finite (decide (sum < 0)) sum.natAbs low false

/-- The product (R287, R301). -/
def fpMul : FpValue → FpValue → FpExact
  | .inf _, .zero _ => .invalid
  | .zero _, .inf _ => .invalid
  | .inf s, b => .inf (s ^^ b.sign)
  | a, .inf t => .inf (a.sign ^^ t)
  | .zero s, b => .zero (s ^^ b.sign)
  | a, .zero t => .zero (a.sign ^^ t)
  | .finite s m e, .finite t n d => .finite (s ^^ t) (m * n) (e + d) false

/-- The quotient, with `k` extra bits (R287, R301, R302). -/
def fpDiv (k : Nat) : FpValue → FpValue → FpExact
  | .inf _, .inf _ => .invalid
  | .zero _, .zero _ => .invalid
  | .inf s, b => .inf (s ^^ b.sign)
  | a, .inf t => .zero (a.sign ^^ t)
  | .zero s, b => .zero (s ^^ b.sign)
  | a, .zero t => .divByZero (a.sign ^^ t)
  | .finite s m e, .finite t n d =>
    .finite (s ^^ t) (m * 2 ^ k / n) (e - d - k) (decide (m * 2 ^ k % n ≠ 0))

/-- The integer square root, `b` bits from the top down, of `n` above the partial root `r`. -/
def isqrt (n : Nat) : (b : Nat) → (r : Nat) → Nat
  | 0, r => r
  | b + 1, r => isqrt n b (if (r + 2 ^ b) * (r + 2 ^ b) ≤ n then r + 2 ^ b else r)

/-- The square root, with extra bits for a format of precision `p` (R287 v, R301). -/
def fpSqrt (p : Nat) : FpValue → FpExact
  | .zero s => .zero s
  | .inf false => .inf false
  | .inf true => .invalid
  | .finite true _ _ => .invalid
  | .finite false m e =>
    let k := if (e - (p + 6)) % 2 = 0 then p + 6 else p + 7
    let n := m * 2 ^ k
    let r := isqrt n (p + 5) 0
    .finite false r ((e - k) / 2) (decide (r * r ≠ n))

/-- A value as an exact result, for a conversion between formats. -/
def FpValue.exact : FpValue → FpExact
  | .zero s => .zero s
  | .inf s => .inf s
  | .finite s m e => .finite s m e false

/-- A 32-bit integer as an exact result; 0 is +0 (R286, R323). -/
def exactOfInt (v : Int) : FpExact := if v = 0 then .zero false else .finite (decide (v < 0)) v.natAbs 0 false

/-- Conversion to a 32-bit integer, truncated; out of range and infinity are unfinished (R305). -/
def fpToInt : FpValue → FpRounded
  | .zero _ => .value 0 .none
  | .inf _ => .unfinished
  | .finite s m e =>
    let whole := if 0 ≤ e then m * 2 ^ e.toNat else m / 2 ^ (-e).toNat
    let inexact := if 0 ≤ e then false else decide (m % 2 ^ (-e).toNat ≠ 0)
    let v := signed s whole
    if -2147483648 ≤ v ∧ v ≤ 2147483647 then .value (BitVec.ofInt 32 v).toNat (.inexact inexact) else .unfinished

/-- The relation of two values that are no NaN: 0 equal, 1 less, 2 greater (R329). -/
def fpCompare : FpValue → FpValue → BitVec 2
  | .zero _, .zero _ => 0
  | .inf s, .inf t => if s = t then 0 else if s then 1 else 2
  | .inf s, _ => if s then 1 else 2
  | _, .inf t => if t then 2 else 1
  | .zero _, .finite t _ _ => if t then 2 else 1
  | .finite s _ _, .zero _ => if s then 1 else 2
  | .finite s m e, .finite t n d =>
    let low := min e d
    let a := signed s (m * 2 ^ (e - low).toNat)
    let b := signed t (n * 2 ^ (d - low).toNat)
    if a = b then 0 else if a < b then 1 else 2

end Sys2Proof.Machine
end

