-- ==== Sys2Proof/Machine/Fpu.lean ====
section
/-! DEFINITION. The floating-point unit: FPops, the FSR, the queue, floating-point loads and stores
(44_floating_point.md, 40_load_store.md R139 to R149). -/
namespace Sys2Proof.Machine

/-! ## The FSR as a word (10_state.md R51) -/

/-- Five exception bits as a field: nv, of, uf, dz, nx. -/
def FpExc.bits (e : FpExc) : BitVec 5 :=
  BitVec.ofBool e.nv ++ BitVec.ofBool e.of ++ BitVec.ofBool e.uf ++ BitVec.ofBool e.dz ++ BitVec.ofBool e.nx

/-- The exception bits of a field. -/
def FpExc.ofBits (b : BitVec 5) : FpExc :=
  { nv := b.getLsbD 4, of := b.getLsbD 3, uf := b.getLsbD 2, dz := b.getLsbD 1, nx := b.getLsbD 0 }

/-- The bitwise or of two fields. -/
def FpExc.or (a b : FpExc) : FpExc :=
  { nv := a.nv || b.nv, of := a.of || b.of, uf := a.uf || b.uf, dz := a.dz || b.dz, nx := a.nx || b.nx }

/-- Whether two fields have a bit in common. -/
def FpExc.meets (a b : FpExc) : Bool :=
  (a.nv && b.nv) || (a.of && b.of) || (a.uf && b.uf) || (a.dz && b.dz) || (a.nx && b.nx)

/-- The word STFSR stores: version 011, QNE from the queue, bits 21, 20 and 12 are 0 (10_state.md R51, R52, R54). -/
def fsrWord (s : State) : Word :=
  s.fsr.rd ++ s.fsr.rp ++ s.fsr.tem.bits ++ BitVec.ofBool s.fsr.ns ++ 0#2 ++ 3#3 ++ s.fsr.ftt ++
    BitVec.ofBool (!s.fq.isEmpty) ++ 0#1 ++ s.fsr.fcc ++ s.fsr.aexc.bits ++ s.fsr.cexc.bits

/-- The FSR after LDFSR: the loadable fields from the word; FTT keeps its value (10_state.md R51, R54, log 14). -/
def fsrOfWord (old : Fsr) (w : Word) : Fsr :=
  { rd := w.extractLsb' 30 2, rp := w.extractLsb' 28 2, tem := .ofBits (w.extractLsb' 23 5), ns := w.getLsbD 22,
    ftt := old.ftt, fcc := w.extractLsb' 10 2, aexc := .ofBits (w.extractLsb' 5 5), cexc := .ofBits (w.extractLsb' 0 5) }

/-! ## The f registers (10_state.md R50) -/

/-- `f[n]`. -/
def readF (s : State) (n : Reg) : Word := s.f[n.toNat]'n.isLt

/-- Write `f[n]`. -/
def writeF (s : State) (n : Reg) (v : Word) : State := { s with f := s.f.set n.toNat v n.isLt }

/-- The double in the pair that holds `f[n]`: the even register is the high word (10_state.md R50). -/
def readFd (s : State) (n : Reg) : DWord := readF s (evenReg n) ++ readF s (oddReg n)

/-- Write the pair that holds `f[n]`. -/
def writeFd (s : State) (n : Reg) (v : DWord) : State := writeF (writeF s (evenReg n) (highWord v)) (oddReg n) (lowWord v)

/-! ## Dispatch and completion (R280, R284, R294 to R298, R306) -/

/-- What a completing FPop writes. -/
inductive FpWrite where
  | single (rd : Reg) (v : Word)
  | double (rd : Reg) (v : DWord)
  | fcc (v : BitVec 2)
deriving DecidableEq, Repr

/-- How an FPop ends (R294). -/
inductive FpOutcome where
  | unimplemented
  | unfinished
  | done (raised : FpExc) (w : FpWrite)
deriving DecidableEq, Repr

/-- Write a result. -/
def applyWrite (s : State) : FpWrite → State
  | .single rd v => writeF s rd v
  | .double rd v => writeFd s rd v
  | .fcc v => { s with fsr := { s.fsr with fcc := v } }

/-- The FPop stays in the queue and the FPU enters pending exception mode, with a trap type (R294, R295). -/
def fpExcept (s : State) (instr : Word) (ftt : BitVec 3) : State :=
  { s with fsr := { s.fsr with ftt := ftt }, fq := s.fq ++ [{ addr := s.pc, instr := instr }], fpMode := .pending }

/-- The FSR with CEXC replaced. -/
def setCexc (s : State) (e : FpExc) : State := { s with fsr := { s.fsr with cexc := e } }

/-- Completion of the FPop with word `instr`, at its dispatch (R284, R294, log 13). -/
def fpComplete (s : State) (instr : Word) : FpOutcome → State
  | .unimplemented => fpExcept s instr 3
  | .unfinished => fpExcept (setCexc s .none) instr 2
  | .done raised w =>
    if raised.meets s.fsr.tem then fpExcept (setCexc s raised) instr 1
    else
      let s1 := applyWrite s w
      { s1 with fsr := { s1.fsr with cexc := raised, aexc := s.fsr.aexc.or raised } }

/-- Sequence error: FTT ← 4, back to pending exception mode, nothing else (R298, log 16). -/
def sequenceError (s : State) : State := { s with fsr := { s.fsr with ftt := 4 }, fpMode := .pending }

/-- An FPop at the IU: fp_disabled, a pending exception, a sequence error in exception mode, else its completion and the
default advance (R280). -/
def fpop (instr : Word) (outcome : FpOutcome) (s : State) : Result :=
  if !fpEnabled s then .next (raise s ttFpDisabled)
  else
    match s.fpMode with
    | .pending => .next (raiseFpException s)
    | .exception => .next (advance (sequenceError s))
    | .execution => .next (advance (fpComplete s instr outcome))

/-- An FPop whose opf is in no row: unimplemented (R297, R363). -/
def unassignedFpop (instr : Word) (s : State) : Result := fpop instr .unimplemented s

/-! ## The steps of `Complete` (R306) -/

/-- Where an FPop puts a pattern. -/
inductive FpDest where
  | single (rd : Reg)
  | double (rd : Reg)
deriving DecidableEq, Repr

/-- A pattern as the write of a destination. -/
def FpDest.write (d : FpDest) (x : Nat) : FpWrite :=
  match d with
  | .single rd => .single rd (BitVec.ofNat 32 x)
  | .double rd => .double rd (BitVec.ofNat 64 x)

/-- A rounded result as the end of an FPop. -/
def fpFinish (d : FpDest) : FpRounded → FpOutcome
  | .value x raised => .done raised (d.write x)
  | .unfinished => .unfinished

/-- Steps (3) and (4) for an operation that is no compare: a NaN operand, or with NS = 0 a denormalized one, is unfinished;
else the operation goes on with the operands' values, a denormalized one as a zero (R290, R292, R300). -/
def fpOperands (f : FpFormat) (ns : Bool) (xs : List Nat) (k : List FpValue → FpOutcome) : FpOutcome :=
  if xs.any f.isNan then .unfinished
  else if !ns && xs.any f.isDenormal then .unfinished
  else k (xs.map f.value)

/-- The quiet NaN the platform's FPU writes in a format (R301, log 17). -/
def qnan (s : State) (d : FpDest) : Nat :=
  match d with
  | .single _ => s.plat.qnanS.toNat
  | .double _ => s.plat.qnanD.toNat

/-- An operation of two operands, rounded to the format it reads (R306). -/
def fpBinary (f : FpFormat) (op : FpValue → FpValue → FpExact) (x y : Nat) (d : FpDest) (s : State) : FpOutcome :=
  fpOperands f s.fsr.ns [x, y] fun
    | [a, b] => fpFinish d (roundExact f s.fsr.rd s.fsr.ns (qnan s d) (op a b))
    | _ => .unfinished

/-- An operation of one operand in format `f`, rounded to format `g` (R306). -/
def fpUnary (f g : FpFormat) (op : FpValue → FpExact) (x : Nat) (d : FpDest) (s : State) : FpOutcome :=
  fpOperands f s.fsr.ns [x] fun
    | [a] => fpFinish d (roundExact g s.fsr.rd s.fsr.ns (qnan s d) (op a))
    | _ => .unfinished

/-- A conversion to integer (R305). -/
def fpInteger (f : FpFormat) (x : Nat) (rd : Reg) (s : State) : FpOutcome :=
  fpOperands f s.fsr.ns [x] fun
    | [a] => fpFinish (.single rd) (fpToInt a)
    | _ => .unfinished

/-- A compare: a denormalized operand with NS = 0 is unfinished; a NaN makes the relation 3, with nv for a signaling NaN, or,
where `onQuiet`, for any NaN (R290, R306, R329 to R332). -/
def fpCmp (f : FpFormat) (onQuiet : Bool) (x y : Nat) (s : State) : FpOutcome :=
  if !s.fsr.ns && (f.isDenormal x || f.isDenormal y) then .unfinished
  else if f.isNan x || f.isNan y then
    let nv := onQuiet || f.isSignaling x || f.isSignaling y
    .done (if nv then .invalid else .none) (.fcc 3)
  else .done .none (.fcc (fpCompare (f.value x) (f.value y)))

/-- The extra quotient bits of a division in a format. -/
def divBits (f : FpFormat) : Nat := f.fbits + 4

/-! ## The implemented FPops (section 6) -/

/-- FMOVs (R310). -/
def execFmovs (rd rs1 rs2 : Reg) (s : State) : Result :=
  fpop (encode (.fmovs rd rs1 rs2)) (.done .none (.single rd (readF s rs2))) s

/-- FNEGs (R311). -/
def execFnegs (rd rs1 rs2 : Reg) (s : State) : Result :=
  fpop (encode (.fnegs rd rs1 rs2)) (.done .none (.single rd (readF s rs2 ^^^ 0x80000000#32))) s

/-- FABSs (R312). -/
def execFabss (rd rs1 rs2 : Reg) (s : State) : Result :=
  fpop (encode (.fabss rd rs1 rs2)) (.done .none (.single rd (readF s rs2 &&& 0x7FFFFFFF#32))) s

/-- FADDs (R313). -/
def execFadds (rd rs1 rs2 : Reg) (s : State) : Result :=
  fpop (encode (.fadds rd rs1 rs2)) (fpBinary .single (fpAdd s.fsr.rd) (readF s rs1).toNat (readF s rs2).toNat (.single rd) s) s

/-- FADDd (R314). -/
def execFaddd (rd rs1 rs2 : Reg) (s : State) : Result :=
  fpop (encode (.faddd rd rs1 rs2)) (fpBinary .double (fpAdd s.fsr.rd) (readFd s rs1).toNat (readFd s rs2).toNat (.double rd) s) s

/-- FSUBs (R315). -/
def execFsubs (rd rs1 rs2 : Reg) (s : State) : Result :=
  fpop (encode (.fsubs rd rs1 rs2)) (fpBinary .single (fun a b => fpAdd s.fsr.rd a b.neg) (readF s rs1).toNat (readF s rs2).toNat (.single rd) s) s

/-- FSUBd (R316). -/
def execFsubd (rd rs1 rs2 : Reg) (s : State) : Result :=
  fpop (encode (.fsubd rd rs1 rs2)) (fpBinary .double (fun a b => fpAdd s.fsr.rd a b.neg) (readFd s rs1).toNat (readFd s rs2).toNat (.double rd) s) s

/-- FMULs (R317). -/
def execFmuls (rd rs1 rs2 : Reg) (s : State) : Result :=
  fpop (encode (.fmuls rd rs1 rs2)) (fpBinary .single fpMul (readF s rs1).toNat (readF s rs2).toNat (.single rd) s) s

/-- FMULd (R318). -/
def execFmuld (rd rs1 rs2 : Reg) (s : State) : Result :=
  fpop (encode (.fmuld rd rs1 rs2)) (fpBinary .double fpMul (readFd s rs1).toNat (readFd s rs2).toNat (.double rd) s) s

/-- FDIVs (R319). -/
def execFdivs (rd rs1 rs2 : Reg) (s : State) : Result :=
  fpop (encode (.fdivs rd rs1 rs2)) (fpBinary .single (fpDiv (divBits .single)) (readF s rs1).toNat (readF s rs2).toNat (.single rd) s) s

/-- FDIVd (R320). -/
def execFdivd (rd rs1 rs2 : Reg) (s : State) : Result :=
  fpop (encode (.fdivd rd rs1 rs2)) (fpBinary .double (fpDiv (divBits .double)) (readFd s rs1).toNat (readFd s rs2).toNat (.double rd) s) s

/-- FSQRTs (R321). -/
def execFsqrts (rd rs1 rs2 : Reg) (s : State) : Result :=
  fpop (encode (.fsqrts rd rs1 rs2)) (fpUnary .single .single (fpSqrt 24) (readF s rs2).toNat (.single rd) s) s

/-- FSQRTd (R322). -/
def execFsqrtd (rd rs1 rs2 : Reg) (s : State) : Result :=
  fpop (encode (.fsqrtd rd rs1 rs2)) (fpUnary .double .double (fpSqrt 53) (readFd s rs2).toNat (.double rd) s) s

/-- FiTOs (R323). -/
def execFitos (rd rs1 rs2 : Reg) (s : State) : Result :=
  fpop (encode (.fitos rd rs1 rs2)) (fpFinish (.single rd) (roundExact .single s.fsr.rd s.fsr.ns 0 (exactOfInt (readF s rs2).toInt))) s

/-- FiTOd (R324). -/
def execFitod (rd rs1 rs2 : Reg) (s : State) : Result :=
  fpop (encode (.fitod rd rs1 rs2)) (fpFinish (.double rd) (roundExact .double s.fsr.rd s.fsr.ns 0 (exactOfInt (readF s rs2).toInt))) s

/-- FsTOi (R325). -/
def execFstoi (rd rs1 rs2 : Reg) (s : State) : Result :=
  fpop (encode (.fstoi rd rs1 rs2)) (fpInteger .single (readF s rs2).toNat rd s) s

/-- FdTOi (R326). -/
def execFdtoi (rd rs1 rs2 : Reg) (s : State) : Result :=
  fpop (encode (.fdtoi rd rs1 rs2)) (fpInteger .double (readFd s rs2).toNat rd s) s

/-- FsTOd (R327). -/
def execFstod (rd rs1 rs2 : Reg) (s : State) : Result :=
  fpop (encode (.fstod rd rs1 rs2)) (fpUnary .single .double FpValue.exact (readF s rs2).toNat (.double rd) s) s

/-- FdTOs (R328). -/
def execFdtos (rd rs1 rs2 : Reg) (s : State) : Result :=
  fpop (encode (.fdtos rd rs1 rs2)) (fpUnary .double .single FpValue.exact (readFd s rs2).toNat (.single rd) s) s

/-- FCMPs (R329). -/
def execFcmps (rd rs1 rs2 : Reg) (s : State) : Result :=
  fpop (encode (.fcmps rd rs1 rs2)) (fpCmp .single false (readF s rs1).toNat (readF s rs2).toNat s) s

/-- FCMPd (R330). -/
def execFcmpd (rd rs1 rs2 : Reg) (s : State) : Result :=
  fpop (encode (.fcmpd rd rs1 rs2)) (fpCmp .double false (readFd s rs1).toNat (readFd s rs2).toNat s) s

/-- FCMPEs (R331). -/
def execFcmpes (rd rs1 rs2 : Reg) (s : State) : Result :=
  fpop (encode (.fcmpes rd rs1 rs2)) (fpCmp .single true (readF s rs1).toNat (readF s rs2).toNat s) s

/-- FCMPEd (R332). -/
def execFcmped (rd rs1 rs2 : Reg) (s : State) : Result :=
  fpop (encode (.fcmped rd rs1 rs2)) (fpCmp .double true (readFd s rs1).toNat (readFd s rs2).toNat s) s

/-! ## The unimplemented FPops (section 7) -/

/-- FADDx (R350). -/
def execFaddx (rd rs1 rs2 : Reg) (s : State) : Result :=
  fpop (encode (.faddx rd rs1 rs2)) (.unimplemented) s

/-- FSUBx (R351). -/
def execFsubx (rd rs1 rs2 : Reg) (s : State) : Result :=
  fpop (encode (.fsubx rd rs1 rs2)) (.unimplemented) s

/-- FMULx (R352). -/
def execFmulx (rd rs1 rs2 : Reg) (s : State) : Result :=
  fpop (encode (.fmulx rd rs1 rs2)) (.unimplemented) s

/-- FDIVx (R353). -/
def execFdivx (rd rs1 rs2 : Reg) (s : State) : Result :=
  fpop (encode (.fdivx rd rs1 rs2)) (.unimplemented) s

/-- FSQRTx (R354). -/
def execFsqrtx (rd rs1 rs2 : Reg) (s : State) : Result :=
  fpop (encode (.fsqrtx rd rs1 rs2)) (.unimplemented) s

/-- FiTOx (R355). -/
def execFitox (rd rs1 rs2 : Reg) (s : State) : Result :=
  fpop (encode (.fitox rd rs1 rs2)) (.unimplemented) s

/-- FsTOx (R356). -/
def execFstox (rd rs1 rs2 : Reg) (s : State) : Result :=
  fpop (encode (.fstox rd rs1 rs2)) (.unimplemented) s

/-- FdTOx (R357). -/
def execFdtox (rd rs1 rs2 : Reg) (s : State) : Result :=
  fpop (encode (.fdtox rd rs1 rs2)) (.unimplemented) s

/-- FxTOi (R358). -/
def execFxtoi (rd rs1 rs2 : Reg) (s : State) : Result :=
  fpop (encode (.fxtoi rd rs1 rs2)) (.unimplemented) s

/-- FxTOs (R359). -/
def execFxtos (rd rs1 rs2 : Reg) (s : State) : Result :=
  fpop (encode (.fxtos rd rs1 rs2)) (.unimplemented) s

/-- FxTOd (R360). -/
def execFxtod (rd rs1 rs2 : Reg) (s : State) : Result :=
  fpop (encode (.fxtod rd rs1 rs2)) (.unimplemented) s

/-- FCMPx (R361). -/
def execFcmpx (rd rs1 rs2 : Reg) (s : State) : Result :=
  fpop (encode (.fcmpx rd rs1 rs2)) (.unimplemented) s

/-- FCMPEx (R362). -/
def execFcmpex (rd rs1 rs2 : Reg) (s : State) : Result :=
  fpop (encode (.fcmpex rd rs1 rs2)) (.unimplemented) s

/-! ## Floating-point loads and stores (40_load_store.md R139 to R149) -/

/-- A floating-point load: fp_disabled, alignment, a pending exception, a sequence error in exception mode, the access
(R139). -/
def fpLoad (ea : Word) (size : Size) (s : State) (k : State → DWord → State) : Result :=
  if !fpEnabled s then .next (raise s ttFpDisabled)
  else if misaligned ea size then .next (raise s ttNotAligned)
  else
    match s.fpMode with
    | .pending => .next (raiseFpException s)
    | .exception => .next (advance (sequenceError s))
    | .execution => loadWith (dataAsi s) ea size s k

/-- A floating-point store: fp_disabled, alignment, a pending exception, the access, also in exception mode (R139). -/
def fpStore (ea : Word) (size : Size) (v : DWord) (s : State) (k : State → State) : Result :=
  if !fpEnabled s then .next (raise s ttFpDisabled)
  else if misaligned ea size then .next (raise s ttNotAligned)
  else if s.fpMode = .pending then .next (raiseFpException s)
  else storeWith (dataAsi s) ea size v s k

/-- LDF (R140). -/
def execLdf (rd rs1 : Reg) (op2 : RegOrImm) (s : State) : Result :=
  fpLoad (addressOf s rs1 op2) .word s fun s1 v => writeF s1 rd (lowWord v)

/-- LDDF (R141). -/
def execLddf (rd rs1 : Reg) (op2 : RegOrImm) (s : State) : Result :=
  fpLoad (addressOf s rs1 op2) .double s fun s1 v => writeFd s1 rd v

/-- LDFSR (R142). -/
def execLdfsr (rs1 : Reg) (op2 : RegOrImm) (s : State) : Result :=
  fpLoad (addressOf s rs1 op2) .word s fun s1 v => { s1 with fsr := fsrOfWord s1.fsr (lowWord v) }

/-- STF (R144). -/
def execStf (rd rs1 : Reg) (op2 : RegOrImm) (s : State) : Result :=
  fpStore (addressOf s rs1 op2) .word ((readF s rd).setWidth 64) s id

/-- STDF (R145). -/
def execStdf (rd rs1 : Reg) (op2 : RegOrImm) (s : State) : Result :=
  fpStore (addressOf s rs1 op2) .double (readFd s rd) s id

/-- STFSR (R146). -/
def execStfsr (rs1 : Reg) (op2 : RegOrImm) (s : State) : Result :=
  fpStore (addressOf s rs1 op2) .word ((fsrWord s).setWidth 64) s id

/-- The front entry of the queue; two free words where it is empty (R149, log 22). -/
def frontEntry (s : State) : DWord :=
  match s.fq with
  | e :: _ => e.addr ++ e.instr
  | [] => drawWord s .queueAddr ++ drawWord s .queueInstr

/-- STDFQ's effect on the queue: in exception mode the front entry goes, and with the last one the mode (R149,
44_floating_point.md R299). DESIGN CHOICE: with a queue that is empty already the FPU returns to execution mode, since the
queue is empty after the store; the spec leaves that case open (91_not_in_source.md, log 22). -/
def advanceQueue (s : State) : State :=
  if s.fpMode = .exception then
    { s with fq := s.fq.tail, fpMode := if s.fq.tail.isEmpty then .execution else .exception }
  else s

/-- STDFQ: privileged (R149). -/
def execStdfq (rs1 : Reg) (op2 : RegOrImm) (s : State) : Result :=
  if !supervisor s then .next (raise s ttPrivileged)
  else fpStore (addressOf s rs1 op2) .double (frontEntry s) s advanceQueue

end Sys2Proof.Machine
end

