-- ==== Sys2Proof/Machine/System.lean ====
section
/-! DEFINITION. Reading and writing the state registers, IFLUSH and UNIMP (43_state_register_misc.md). -/
namespace Sys2Proof.Machine

/-- Run `k` in supervisor mode, else privileged_instruction (R260, 60_exceptions.md R403). -/
def privileged (s : State) (k : Result) : Result := if supervisor s then k else .next (raise s ttPrivileged)

/-- The value a write forms: `r[rs1] xor operand2` (R260). -/
def writeValue (s : State) (rs1 : Reg) (o : RegOrImm) : Word := readReg s .rs1 rs1 ^^^ operand2 s o

/-- RDY (R264). -/
def execRdy (rd : Reg) (s : State) : Result := .next (finish s rd (useY s .readY))

/-- RDPSR (R261). -/
def execRdpsr (rd : Reg) (s : State) : Result :=
  privileged s (.next (finish s rd (psrWord s (readPsr s))))

/-- RDWIM: bits 31:8 read 0 (R262). -/
def execRdwim (rd : Reg) (s : State) : Result :=
  privileged s (.next (finish s rd ((useWim s .readWim).setWidth 32)))

/-- RDTBR (R263). -/
def execRdtbr (rd : Reg) (s : State) : Result :=
  privileged s (.next (finish s rd (tbrWord (useTba s .readTba) s.tbr.tt)))

/-- WRY: a delayed write (R268, R269). -/
def execWry (rs1 : Reg) (op2 : RegOrImm) (s : State) : Result :=
  let v := writeValue s rs1 op2
  .next (advance { s with y := v, yWin := s.yWin.write s.y v })

/-- WRPSR: illegal_instruction for a CWP field above 7, then privileged_instruction, then a delayed write (R265, R269). -/
def execWrpsr (rs1 : Reg) (op2 : RegOrImm) (s : State) : Result :=
  let v := writeValue s rs1 op2
  let p := psrOfWord s v
  if v.extractLsb' 3 2 ≠ 0 then .next (raise s ttIllegal)
  else privileged s (.next (advance { s with psr := p, psrWin := s.psrWin.write s.psr p }))

/-- WRWIM: a delayed write of the eight implemented bits (R266, R269). -/
def execWrwim (rs1 : Reg) (op2 : RegOrImm) (s : State) : Result :=
  let v := (writeValue s rs1 op2).extractLsb' 0 8
  privileged s (.next (advance { s with wim := v, wimWin := s.wimWin.write s.wim v }))

/-- WRTBR: a delayed write of TBA alone (R267, R269). -/
def execWrtbr (rs1 : Reg) (op2 : RegOrImm) (s : State) : Result :=
  let v := (writeValue s rs1 op2).extractLsb' 12 20
  privileged s (.next (advance { s with tbr := { s.tbr with tba := v }, tbaWin := s.tbaWin.write s.tbr.tba v }))

/-- The parameter IFT: the level of the pin, and on the CY7C611, which has no such pin, the open parameter `IFT_PIN` of
92_eei_decisions.md D14, 1 by default (R270, log 23). -/
def iftHigh (s : State) : Bool := s.plat.iftPin

/-- IFLUSH: illegal_instruction with IFT = 0, else no effect; the address is not used (R270). -/
def execIflush (_rs1 : Reg) (_op2 : RegOrImm) (s : State) : Result :=
  if iftHigh s then .next (advance s) else .next (raise s ttIllegal)

/-- UNIMP: illegal_instruction; const22 is not examined (R271). -/
def execUnimp (_const22 : BitVec 22) (s : State) : Result := .next (raise s ttIllegal)

end Sys2Proof.Machine
end

