-- ==== Sys2Proof/Machine/Dispatch.lean ====
section
/-! DEFINITION. One arm per instruction, each one call of its meaning. -/
namespace Sys2Proof.Machine

def exec (i : Instr) (s : State) : Host.Outcome State Fault Refusal :=
  match i with
  | .ldsb rd rs1 op2 => Sys2Proof.Machine.execLdsb rd rs1 op2 s
  | .ldsh rd rs1 op2 => Sys2Proof.Machine.execLdsh rd rs1 op2 s
  | .ldub rd rs1 op2 => Sys2Proof.Machine.execLdub rd rs1 op2 s
  | .lduh rd rs1 op2 => Sys2Proof.Machine.execLduh rd rs1 op2 s
  | .ld rd rs1 op2 => Sys2Proof.Machine.execLd rd rs1 op2 s
  | .ldd rd rs1 op2 => Sys2Proof.Machine.execLdd rd rs1 op2 s
  | .ldsba rd rs1 rs2 asi => Sys2Proof.Machine.execLdsba rd rs1 rs2 asi s
  | .ldsha rd rs1 rs2 asi => Sys2Proof.Machine.execLdsha rd rs1 rs2 asi s
  | .lduba rd rs1 rs2 asi => Sys2Proof.Machine.execLduba rd rs1 rs2 asi s
  | .lduha rd rs1 rs2 asi => Sys2Proof.Machine.execLduha rd rs1 rs2 asi s
  | .lda rd rs1 rs2 asi => Sys2Proof.Machine.execLda rd rs1 rs2 asi s
  | .ldda rd rs1 rs2 asi => Sys2Proof.Machine.execLdda rd rs1 rs2 asi s
  | .stb rd rs1 op2 => Sys2Proof.Machine.execStb rd rs1 op2 s
  | .sth rd rs1 op2 => Sys2Proof.Machine.execSth rd rs1 op2 s
  | .st rd rs1 op2 => Sys2Proof.Machine.execSt rd rs1 op2 s
  | .std rd rs1 op2 => Sys2Proof.Machine.execStd rd rs1 op2 s
  | .stba rd rs1 rs2 asi => Sys2Proof.Machine.execStba rd rs1 rs2 asi s
  | .stha rd rs1 rs2 asi => Sys2Proof.Machine.execStha rd rs1 rs2 asi s
  | .sta rd rs1 rs2 asi => Sys2Proof.Machine.execSta rd rs1 rs2 asi s
  | .stda rd rs1 rs2 asi => Sys2Proof.Machine.execStda rd rs1 rs2 asi s
  | .ldf rd rs1 op2 => Sys2Proof.Machine.execLdf rd rs1 op2 s
  | .lddf rd rs1 op2 => Sys2Proof.Machine.execLddf rd rs1 op2 s
  | .ldfsr rs1 op2 => Sys2Proof.Machine.execLdfsr rs1 op2 s
  | .stf rd rs1 op2 => Sys2Proof.Machine.execStf rd rs1 op2 s
  | .stdf rd rs1 op2 => Sys2Proof.Machine.execStdf rd rs1 op2 s
  | .stfsr rs1 op2 => Sys2Proof.Machine.execStfsr rs1 op2 s
  | .stdfq rs1 op2 => Sys2Proof.Machine.execStdfq rs1 op2 s
  | .ldstub rd rs1 op2 => Sys2Proof.Machine.execLdstub rd rs1 op2 s
  | .ldstuba rd rs1 rs2 asi => Sys2Proof.Machine.execLdstuba rd rs1 rs2 asi s
  | .swap rd rs1 op2 => Sys2Proof.Machine.execSwap rd rs1 op2 s
  | .swapa rd rs1 rs2 asi => Sys2Proof.Machine.execSwapa rd rs1 rs2 asi s
  | .ldc rd rs1 op2 => Sys2Proof.Machine.execLdc rd rs1 op2 s
  | .lddc rd rs1 op2 => Sys2Proof.Machine.execLddc rd rs1 op2 s
  | .ldcsr rs1 op2 => Sys2Proof.Machine.execLdcsr rs1 op2 s
  | .stc rd rs1 op2 => Sys2Proof.Machine.execStc rd rs1 op2 s
  | .stdc rd rs1 op2 => Sys2Proof.Machine.execStdc rd rs1 op2 s
  | .stcsr rs1 op2 => Sys2Proof.Machine.execStcsr rs1 op2 s
  | .stdcq rs1 op2 => Sys2Proof.Machine.execStdcq rs1 op2 s
  | .add rd rs1 op2 => Sys2Proof.Machine.execAdd rd rs1 op2 s
  | .addcc rd rs1 op2 => Sys2Proof.Machine.execAddcc rd rs1 op2 s
  | .addx rd rs1 op2 => Sys2Proof.Machine.execAddx rd rs1 op2 s
  | .addxcc rd rs1 op2 => Sys2Proof.Machine.execAddxcc rd rs1 op2 s
  | .sub rd rs1 op2 => Sys2Proof.Machine.execSub rd rs1 op2 s
  | .subcc rd rs1 op2 => Sys2Proof.Machine.execSubcc rd rs1 op2 s
  | .subx rd rs1 op2 => Sys2Proof.Machine.execSubx rd rs1 op2 s
  | .subxcc rd rs1 op2 => Sys2Proof.Machine.execSubxcc rd rs1 op2 s
  | .taddcc rd rs1 op2 => Sys2Proof.Machine.execTaddcc rd rs1 op2 s
  | .tsubcc rd rs1 op2 => Sys2Proof.Machine.execTsubcc rd rs1 op2 s
  | .taddcctv rd rs1 op2 => Sys2Proof.Machine.execTaddcctv rd rs1 op2 s
  | .tsubcctv rd rs1 op2 => Sys2Proof.Machine.execTsubcctv rd rs1 op2 s
  | .mulscc rd rs1 op2 => Sys2Proof.Machine.execMulscc rd rs1 op2 s
  | .and rd rs1 op2 => Sys2Proof.Machine.execAnd rd rs1 op2 s
  | .andcc rd rs1 op2 => Sys2Proof.Machine.execAndcc rd rs1 op2 s
  | .andn rd rs1 op2 => Sys2Proof.Machine.execAndn rd rs1 op2 s
  | .andncc rd rs1 op2 => Sys2Proof.Machine.execAndncc rd rs1 op2 s
  | .or rd rs1 op2 => Sys2Proof.Machine.execOr rd rs1 op2 s
  | .orcc rd rs1 op2 => Sys2Proof.Machine.execOrcc rd rs1 op2 s
  | .orn rd rs1 op2 => Sys2Proof.Machine.execOrn rd rs1 op2 s
  | .orncc rd rs1 op2 => Sys2Proof.Machine.execOrncc rd rs1 op2 s
  | .xor rd rs1 op2 => Sys2Proof.Machine.execXor rd rs1 op2 s
  | .xorcc rd rs1 op2 => Sys2Proof.Machine.execXorcc rd rs1 op2 s
  | .xnor rd rs1 op2 => Sys2Proof.Machine.execXnor rd rs1 op2 s
  | .xnorcc rd rs1 op2 => Sys2Proof.Machine.execXnorcc rd rs1 op2 s
  | .sethi rd imm22 => Sys2Proof.Machine.execSethi rd imm22 s
  | .sll rd rs1 count => Sys2Proof.Machine.execSll rd rs1 count s
  | .srl rd rs1 count => Sys2Proof.Machine.execSrl rd rs1 count s
  | .sra rd rs1 count => Sys2Proof.Machine.execSra rd rs1 count s
  | .bn annul disp22 => Sys2Proof.Machine.execBn annul disp22 s
  | .be annul disp22 => Sys2Proof.Machine.execBe annul disp22 s
  | .ble annul disp22 => Sys2Proof.Machine.execBle annul disp22 s
  | .bl annul disp22 => Sys2Proof.Machine.execBl annul disp22 s
  | .bleu annul disp22 => Sys2Proof.Machine.execBleu annul disp22 s
  | .bcs annul disp22 => Sys2Proof.Machine.execBcs annul disp22 s
  | .bneg annul disp22 => Sys2Proof.Machine.execBneg annul disp22 s
  | .bvs annul disp22 => Sys2Proof.Machine.execBvs annul disp22 s
  | .ba annul disp22 => Sys2Proof.Machine.execBa annul disp22 s
  | .bne annul disp22 => Sys2Proof.Machine.execBne annul disp22 s
  | .bg annul disp22 => Sys2Proof.Machine.execBg annul disp22 s
  | .bge annul disp22 => Sys2Proof.Machine.execBge annul disp22 s
  | .bgu annul disp22 => Sys2Proof.Machine.execBgu annul disp22 s
  | .bcc annul disp22 => Sys2Proof.Machine.execBcc annul disp22 s
  | .bpos annul disp22 => Sys2Proof.Machine.execBpos annul disp22 s
  | .bvc annul disp22 => Sys2Proof.Machine.execBvc annul disp22 s
  | .fbn annul disp22 => Sys2Proof.Machine.execFbn annul disp22 s
  | .fbne annul disp22 => Sys2Proof.Machine.execFbne annul disp22 s
  | .fblg annul disp22 => Sys2Proof.Machine.execFblg annul disp22 s
  | .fbul annul disp22 => Sys2Proof.Machine.execFbul annul disp22 s
  | .fbl annul disp22 => Sys2Proof.Machine.execFbl annul disp22 s
  | .fbug annul disp22 => Sys2Proof.Machine.execFbug annul disp22 s
  | .fbg annul disp22 => Sys2Proof.Machine.execFbg annul disp22 s
  | .fbu annul disp22 => Sys2Proof.Machine.execFbu annul disp22 s
  | .fba annul disp22 => Sys2Proof.Machine.execFba annul disp22 s
  | .fbe annul disp22 => Sys2Proof.Machine.execFbe annul disp22 s
  | .fbue annul disp22 => Sys2Proof.Machine.execFbue annul disp22 s
  | .fbge annul disp22 => Sys2Proof.Machine.execFbge annul disp22 s
  | .fbuge annul disp22 => Sys2Proof.Machine.execFbuge annul disp22 s
  | .fble annul disp22 => Sys2Proof.Machine.execFble annul disp22 s
  | .fbule annul disp22 => Sys2Proof.Machine.execFbule annul disp22 s
  | .fbo annul disp22 => Sys2Proof.Machine.execFbo annul disp22 s
  | .cbn annul disp22 => Sys2Proof.Machine.execCbn annul disp22 s
  | .cb123 annul disp22 => Sys2Proof.Machine.execCb123 annul disp22 s
  | .cb12 annul disp22 => Sys2Proof.Machine.execCb12 annul disp22 s
  | .cb13 annul disp22 => Sys2Proof.Machine.execCb13 annul disp22 s
  | .cb1 annul disp22 => Sys2Proof.Machine.execCb1 annul disp22 s
  | .cb23 annul disp22 => Sys2Proof.Machine.execCb23 annul disp22 s
  | .cb2 annul disp22 => Sys2Proof.Machine.execCb2 annul disp22 s
  | .cb3 annul disp22 => Sys2Proof.Machine.execCb3 annul disp22 s
  | .cba annul disp22 => Sys2Proof.Machine.execCba annul disp22 s
  | .cb0 annul disp22 => Sys2Proof.Machine.execCb0 annul disp22 s
  | .cb03 annul disp22 => Sys2Proof.Machine.execCb03 annul disp22 s
  | .cb02 annul disp22 => Sys2Proof.Machine.execCb02 annul disp22 s
  | .cb023 annul disp22 => Sys2Proof.Machine.execCb023 annul disp22 s
  | .cb01 annul disp22 => Sys2Proof.Machine.execCb01 annul disp22 s
  | .cb013 annul disp22 => Sys2Proof.Machine.execCb013 annul disp22 s
  | .cb012 annul disp22 => Sys2Proof.Machine.execCb012 annul disp22 s
  | .call disp30 => Sys2Proof.Machine.execCall disp30 s
  | .jmpl rd rs1 op2 => Sys2Proof.Machine.execJmpl rd rs1 op2 s
  | .rett rs1 op2 => Sys2Proof.Machine.execRett rs1 op2 s
  | .tn rs1 op2 => Sys2Proof.Machine.execTn rs1 op2 s
  | .te rs1 op2 => Sys2Proof.Machine.execTe rs1 op2 s
  | .tle rs1 op2 => Sys2Proof.Machine.execTle rs1 op2 s
  | .tl rs1 op2 => Sys2Proof.Machine.execTl rs1 op2 s
  | .tleu rs1 op2 => Sys2Proof.Machine.execTleu rs1 op2 s
  | .tcs rs1 op2 => Sys2Proof.Machine.execTcs rs1 op2 s
  | .tneg rs1 op2 => Sys2Proof.Machine.execTneg rs1 op2 s
  | .tvs rs1 op2 => Sys2Proof.Machine.execTvs rs1 op2 s
  | .ta rs1 op2 => Sys2Proof.Machine.execTa rs1 op2 s
  | .tne rs1 op2 => Sys2Proof.Machine.execTne rs1 op2 s
  | .tg rs1 op2 => Sys2Proof.Machine.execTg rs1 op2 s
  | .tge rs1 op2 => Sys2Proof.Machine.execTge rs1 op2 s
  | .tgu rs1 op2 => Sys2Proof.Machine.execTgu rs1 op2 s
  | .tcc rs1 op2 => Sys2Proof.Machine.execTcc rs1 op2 s
  | .tpos rs1 op2 => Sys2Proof.Machine.execTpos rs1 op2 s
  | .tvc rs1 op2 => Sys2Proof.Machine.execTvc rs1 op2 s
  | .save rd rs1 op2 => Sys2Proof.Machine.execSave rd rs1 op2 s
  | .restore rd rs1 op2 => Sys2Proof.Machine.execRestore rd rs1 op2 s
  | .rdy rd => Sys2Proof.Machine.execRdy rd s
  | .rdpsr rd => Sys2Proof.Machine.execRdpsr rd s
  | .rdwim rd => Sys2Proof.Machine.execRdwim rd s
  | .rdtbr rd => Sys2Proof.Machine.execRdtbr rd s
  | .wry rs1 op2 => Sys2Proof.Machine.execWry rs1 op2 s
  | .wrpsr rs1 op2 => Sys2Proof.Machine.execWrpsr rs1 op2 s
  | .wrwim rs1 op2 => Sys2Proof.Machine.execWrwim rs1 op2 s
  | .wrtbr rs1 op2 => Sys2Proof.Machine.execWrtbr rs1 op2 s
  | .iflush rs1 op2 => Sys2Proof.Machine.execIflush rs1 op2 s
  | .unimp const22 => Sys2Proof.Machine.execUnimp const22 s
  | .fmovs rd rs1 rs2 => Sys2Proof.Machine.execFmovs rd rs1 rs2 s
  | .fnegs rd rs1 rs2 => Sys2Proof.Machine.execFnegs rd rs1 rs2 s
  | .fabss rd rs1 rs2 => Sys2Proof.Machine.execFabss rd rs1 rs2 s
  | .fsqrts rd rs1 rs2 => Sys2Proof.Machine.execFsqrts rd rs1 rs2 s
  | .fsqrtd rd rs1 rs2 => Sys2Proof.Machine.execFsqrtd rd rs1 rs2 s
  | .fsqrtx rd rs1 rs2 => Sys2Proof.Machine.execFsqrtx rd rs1 rs2 s
  | .fadds rd rs1 rs2 => Sys2Proof.Machine.execFadds rd rs1 rs2 s
  | .faddd rd rs1 rs2 => Sys2Proof.Machine.execFaddd rd rs1 rs2 s
  | .faddx rd rs1 rs2 => Sys2Proof.Machine.execFaddx rd rs1 rs2 s
  | .fsubs rd rs1 rs2 => Sys2Proof.Machine.execFsubs rd rs1 rs2 s
  | .fsubd rd rs1 rs2 => Sys2Proof.Machine.execFsubd rd rs1 rs2 s
  | .fsubx rd rs1 rs2 => Sys2Proof.Machine.execFsubx rd rs1 rs2 s
  | .fmuls rd rs1 rs2 => Sys2Proof.Machine.execFmuls rd rs1 rs2 s
  | .fmuld rd rs1 rs2 => Sys2Proof.Machine.execFmuld rd rs1 rs2 s
  | .fmulx rd rs1 rs2 => Sys2Proof.Machine.execFmulx rd rs1 rs2 s
  | .fdivs rd rs1 rs2 => Sys2Proof.Machine.execFdivs rd rs1 rs2 s
  | .fdivd rd rs1 rs2 => Sys2Proof.Machine.execFdivd rd rs1 rs2 s
  | .fdivx rd rs1 rs2 => Sys2Proof.Machine.execFdivx rd rs1 rs2 s
  | .fitos rd rs1 rs2 => Sys2Proof.Machine.execFitos rd rs1 rs2 s
  | .fdtos rd rs1 rs2 => Sys2Proof.Machine.execFdtos rd rs1 rs2 s
  | .fxtos rd rs1 rs2 => Sys2Proof.Machine.execFxtos rd rs1 rs2 s
  | .fitod rd rs1 rs2 => Sys2Proof.Machine.execFitod rd rs1 rs2 s
  | .fstod rd rs1 rs2 => Sys2Proof.Machine.execFstod rd rs1 rs2 s
  | .fxtod rd rs1 rs2 => Sys2Proof.Machine.execFxtod rd rs1 rs2 s
  | .fitox rd rs1 rs2 => Sys2Proof.Machine.execFitox rd rs1 rs2 s
  | .fstox rd rs1 rs2 => Sys2Proof.Machine.execFstox rd rs1 rs2 s
  | .fdtox rd rs1 rs2 => Sys2Proof.Machine.execFdtox rd rs1 rs2 s
  | .fstoi rd rs1 rs2 => Sys2Proof.Machine.execFstoi rd rs1 rs2 s
  | .fdtoi rd rs1 rs2 => Sys2Proof.Machine.execFdtoi rd rs1 rs2 s
  | .fxtoi rd rs1 rs2 => Sys2Proof.Machine.execFxtoi rd rs1 rs2 s
  | .fcmps rd rs1 rs2 => Sys2Proof.Machine.execFcmps rd rs1 rs2 s
  | .fcmpd rd rs1 rs2 => Sys2Proof.Machine.execFcmpd rd rs1 rs2 s
  | .fcmpx rd rs1 rs2 => Sys2Proof.Machine.execFcmpx rd rs1 rs2 s
  | .fcmpes rd rs1 rs2 => Sys2Proof.Machine.execFcmpes rd rs1 rs2 s
  | .fcmped rd rs1 rs2 => Sys2Proof.Machine.execFcmped rd rs1 rs2 s
  | .fcmpex rd rs1 rs2 => Sys2Proof.Machine.execFcmpex rd rs1 rs2 s
  | .cpop1 rd rs1 opc rs2 => Sys2Proof.Machine.execCpop1 rd rs1 opc rs2 s
  | .cpop2 rd rs1 opc rs2 => Sys2Proof.Machine.execCpop2 rd rs1 opc rs2 s

end Sys2Proof.Machine
end

