-- ==== Sys2Proof/Machine/Run.lean ====
section
/-! DEFINITION. What a step does around an instruction: resets, error mode, the other agents, interrupts, words of no row
(00_scope.md R8; 45_coprocessor.md R345; 60_exceptions.md R430, R445; 70_reset_and_hazards.md R500;
22_cmu_registers_faults_reset.md R680 to R683). -/
namespace Sys2Proof.Machine

/-- Whether an interrupt is taken at this boundary: ET = 1 and a level that is 15 or above PIL, where the environment chooses
the boundary (R430, R431, log 11). -/
def interruptTaken (s : State) : Bool :=
  s.plat.irl ≠ 0 && usePsr s Psr.et .interruptEt &&
    (s.plat.irl = 15 || decide (usePsr s Psr.pil .interruptPil < s.plat.irl)) && drawBool s .interruptBoundary

/-- Interrupt entry: trap type 16 plus the level (R415, R424, R430). -/
def takeInterrupt (s : State) : State := enterTrap s (16 + s.plat.irl.setWidth 8)

/-- A word that is no instruction of the table: illegal_instruction, or an unimplemented FPop (30_encoding.md R94, log 46). -/
def execRejected (w : Word) (r : Reject) (s : State) : Result :=
  match r with
  | .unassignedFpop => unassignedFpop w s
  | _ => .next (raise s ttIllegal)

/-- The agents beside the IU that have steps of their own between two instructions (00_scope.md R8; the FPU completes its FPops
at their dispatch, log 13). -/
inductive Agent where
  /-- A CPop of the second coprocessor ends. -/
  | coprocessor
  /-- The CMU drains a write buffer. -/
  | drain
  /-- The CY7C605 snoops a transaction. -/
  | snoop
deriving DecidableEq, Repr

/-- The agents that have something to do. -/
def agents (s : State) : List Agent :=
  (if s.plat.cpPresent && s.plat.iu = .cy7c601 && cpBusy s.cp then [.coprocessor] else []) ++
    (if hasCmu s && !s.cmu.wbuf.isEmpty then [.drain] else []) ++
    (if hasCmu s && is605 s && !s.snoops.isEmpty then [.snoop] else [])

/-- CCCV halts the IU: a compare of the second coprocessor is at work, and only other agents act until it has ended (R345). -/
def iuHalted (s : State) : Bool := s.plat.cpPresent && s.plat.iu = .cy7c601 && cpComparing s.cp

/-- The agent that acts at this boundary, or none: a free choice, since their order is not stated (log 28, 43, 19); never none
while the IU is halted. -/
def agentTurn (s : State) : Option Agent :=
  (agents s)[drawNat s .agent % if iuHalted s then (agents s).length else (agents s).length + 1]?

/-- The step of an agent. -/
def agentStep (s : State) : Agent → State
  | .coprocessor => withCp s (cpOwnStep s.draws s.cp)
  | .drain => drainOne s
  | .snoop =>
    match s.snoops with
    | [] => s
    | x :: rest => { snoop s x with snoops := rest }

/-- What a step finds before any instruction, in this order: POR or, with a CMU, RESET, which resets the CMU too (10_state.md
R62, log 40), RESET, the end of a reset, IRST, error mode, the turn of another agent, an interrupt (R445). -/
inductive Boundary where
  | powerOn
  | resetHeld
  | resetEnd
  | internalReset
  | watchdog
  | halted
  | agent (a : Agent)
  | interrupt
  | instruction
deriving DecidableEq, Repr

/-- What this boundary is. -/
def boundary (s : State) : Boundary :=
  if (s.plat.porPin || s.plat.resetPin) && hasCmu s then .powerOn
  else if s.plat.resetPin then .resetHeld
  else if s.mode = .reset then .resetEnd
  else if s.cmu.irst && hasCmu s then .internalReset
  else if s.mode = .error then (if hasCmu s then .watchdog else .halted)
  else
    match agentTurn s with
    | some a => .agent a
    | none => if interruptTaken s then .interrupt else .instruction

/-- Power-on reset of the CMU, which holds the IU in reset (22 R681). -/
def powerOn (s : State) : State := { s with cmu := powerOnCmu s.cmu s.plat.csel, mode := .reset }

/-- The reset a CMU gives the IU after SIR (22 R683). -/
def internalReset (s : State) : State := resetIu { s with cmu := bootMode s.cmu }

/-- The watchdog reset: RR.WDR ← 1 and the reset of the IU (22 R682). -/
def watchdogReset (s : State) : State := resetIu { s with cmu := bootMode { s.cmu with rr := s.cmu.rr ||| 4#3 } }

end Sys2Proof.Machine
end

