-- ==== Sys2Proof/Machine/Step.lean ====
section
/-! DEFINITION. One step of the machine (60_exceptions.md R445). -/
namespace Sys2Proof.Machine

/-- The end of an instruction's step that answered a next state. -/
def closeStep : Host.Outcome State Fault Refusal → Host.Outcome State Fault Refusal
  | .next s => .next (endStep s)
  | .fault r => .fault r
  | .refused r => .refused r

/-- The instruction at PC: the fetch, then the decoded word's meaning (R445 steps 3 to 5). -/
def instructionStep (s : State) : Host.Outcome State Fault Refusal :=
  match fetch s with
  | (s1, none) => .next (raise s1 ttInstructionAccess)
  | (s1, some w) =>
    match decodeBytes (wordBytes w) with
    | .instr i => exec i s1
    | .reject r => execRejected w r s1

/-- One step: a reset, the halt of error mode, a step of another agent, an interrupt, which INTACK tells (10_state.md R62), or one
instruction (R445). -/
def step (s : State) : Host.Outcome State Fault Refusal :=
  match boundary s with
  | .powerOn => .next (endTurn (powerOn s))
  | .resetHeld => .next (endTurn { s with mode := .reset })
  | .resetEnd => .next (endTurn (resetIu s))
  | .internalReset => .next (endTurn (internalReset s))
  | .watchdog => .next (endTurn (watchdogReset s))
  | .halted => .fault .errorMode
  | .agent a => .next (endTurn (agentStep s a))
  | .interrupt => .next { endTurn (takeInterrupt s) with intack := true }
  | .instruction => closeStep (instructionStep s)

/-- The machine `s` with an instruction word placed where the next step fetches: the program's load from outside (log 4). It
sets all that the fetch takes: execute mode, no reset or interrupt asked for, no CMU and no coprocessor whose turn could come
first, no pending use of an old word, and the memory of the standard address spaces. -/
def State.withFetchWord (s : State) (nbits w : Nat) : State :=
  let word : Word := BitVec.ofNat 32 (w % 2 ^ nbits)
  { s with
    mode := .execute
    codeHist := []
    plat := { s.plat with irl := 0, resetPin := false, porPin := false, cmu := .none, cpPresent := false, memFault := [] }
    mem := setBytes s.mem (memKey 0 (pinAddress s s.pc)) (wordBytes word) }

end Sys2Proof.Machine
end

