-- ==== Sys2Proof/Safety.lean ====
section
/-! DEFINITION. What counts as a safe state and a safe run. -/
namespace Sys2Proof.Machine

/-- PC and nPC are word-aligned (10_state.md R28). -/
def State.pcAligned (s : State) : Bool := decide (s.pc.extractLsb' 0 2 = 0) && decide (s.npc.extractLsb' 0 2 = 0)

/-- The write buffers hold at most four writes of a store, or one line (21_mmu_cache.md R625). -/
def Cmu.buffered (c : Cmu) : Bool :=
  (decide (c.wbuf.length ≤ 4) && c.wbuf.all fun b => decide (b.bytes.length ≤ 8)) ||
    (decide (c.wbuf.length = 1) && c.wbuf.all WriteBuffer.isLine)

/-- Main memory, the cache data and the tag arrays are in canonical form (log 3), the write buffers in theirs. -/
def State.stored (s : State) : Bool :=
  Memory.wf s.mem && Memory.wf s.cmu.data && sparseWf Tag.reset s.cmu.tags && sparseWf MpTag.reset s.cmu.mptags &&
    s.cmu.buffered

/-- A record of delayed writes is canonical: no write exactly when its count is 0, and at most three instructions remain
(70_reset_and_hazards.md R511). -/
def Delayed.canonical {α : Type} (w : Delayed α) : Bool := (w.writes.isEmpty == decide (w.left = 0)) && decide (w.left ≤ 3)

/-- The four records of delayed writes are canonical. -/
def State.windows (s : State) : Bool :=
  s.psrWin.canonical && s.wimWin.canonical && s.tbaWin.canonical && s.yWin.canonical

/-- Every remembered store has one to four instructions left (70_reset_and_hazards.md R516). -/
def State.edits (s : State) : Bool := s.codeHist.all fun e => decide (1 ≤ e.left ∧ e.left ≤ 4)

/-- The queue is empty in execution mode (44_floating_point.md R284, log 13), and holds no more than `FQ_DEPTH` entries
(10_state.md R55). -/
def State.queueMode (s : State) : Bool :=
  (s.fpMode ≠ .execution || s.fq.isEmpty) && decide (s.fq.length ≤ Config.fqDepth)

/-- PSR.EC is 0 on a CY7C611 (10_state.md R38). -/
def State.ecFixed (s : State) : Bool := s.plat.iu ≠ .cy7c611 || !s.psr.ec

/-- The coprocessor's CCC are the bits of its CSR, and out of execution mode the CPop that met the exception stands in its queue
(45_coprocessor.md R340 (c), (d), R344). -/
def State.cpSound (s : State) : Bool :=
  decide (s.cp.ccc = cpCccOfCsr s.cp.csr) && (s.cp.mode = .execution || !s.cp.cq.isEmpty)

/-- `CTI_BASE_OFFSET` is a multiple of 4 (42_control_transfer.md R221). -/
def State.baseAligned (s : State) : Bool := decide (s.plat.ctiBase.extractLsb' 0 2 = 0)

/-- The invariant of the machine. -/
def State.Inv (s : State) : Prop :=
  s.pcAligned = true ∧ s.stored = true ∧ s.windows = true ∧ s.edits = true ∧ s.queueMode = true ∧ s.ecFixed = true ∧
    s.baseAligned = true ∧ s.cpSound = true

/-- A run of at most `k` steps meets no fault and no refusal. -/
def runsSafely : Nat → State → Prop
  | 0, _ => True
  | k + 1, s => ∃ t, step s = .next t ∧ runsSafely k t

end Sys2Proof.Machine
end

