-- ==== Sys2Proof/Certificates/Slice0/Obligations.lean ====
section
/-! DEFINITION. The statements for the provers, and before them the words they are stated in. -/
namespace Sys2Proof.Claims
open Sys2Proof.Machine

/-! ## States -/

/-- No delayed write is pending: every use of PSR, WIM, TBR and Y has its one value (70_reset_and_hazards.md R511). -/
abbrev Settled (s : State) : Prop :=
  s.psrWin.writes = [] ∧ s.wimWin.writes = [] ∧ s.tbaWin.writes = [] ∧ s.yWin.writes = []

/-- No CMU, and a memory system that never answers with a memory exception. -/
abbrev Quiet (s : State) : Prop := hasCmu s = false ∧ s.plat.memFault = []

/-- An FPU is present and enabled. -/
abbrev FpOn (s : State) : Prop := s.psr.ef = true ∧ s.plat.fpuPresent = true

/-- A coprocessor is present and enabled. -/
abbrev CpOn (s : State) : Prop := s.psr.ec = true ∧ s.plat.cpPresent = true ∧ s.plat.iu = .cy7c601

/-! ## Operands -/

/-- `r[n]` of the current window. -/
def reg (s : State) (n : Reg) : Word := regIn s s.psr.cwp n

/-- The second operand: a register or the sign-extended constant (30_encoding.md R85). -/
def arg (s : State) : RegOrImm → Word
  | .reg n => reg s n
  | .imm v => BitVec.ofInt 32 v

/-- `r[rs1] + operand2`. -/
def ea (s : State) (rs1 : Reg) (o : RegOrImm) : Word := reg s rs1 + arg s o

/-- The shift count, 0 to 31. -/
def shiftBy (s : State) : ShiftCount → Nat
  | .reg n => (reg s n).toNat % 32
  | .imm n => n.toNat

/-- The carry as a word. -/
def carry (s : State) : Word := if s.psr.c then 1 else 0

/-! ## Next states -/

/-- The registers after `r[n]` of window `w` is given the value `v`; `r[0]` takes none. -/
def withReg (regs : Vector Word 136) (w : BitVec 3) (n : Reg) (v : Word) : Vector Word 136 :=
  if n = 0 then regs else regs.setIfInBounds (regIndex w n) v

/-- The state with nothing changed but the default advance (10_state.md R30). -/
def done (s : State) : State := { s with pc := s.npc, npc := s.npc + 4, condDelay := false }

/-- `r[rd] ← v`, the default advance, and nothing else. -/
def result (s : State) (rd : Reg) (v : Word) : State := { done s with regs := withReg s.regs s.psr.cwp rd v }

/-- `r[rd] ← v`, icc, the default advance, and nothing else. -/
def flagged (s : State) (rd : Reg) (v : Word) (i : Icc) : State :=
  { result s rd v with psr := { s.psr with n := i.n, z := i.z, v := i.v, c := i.c } }

/-- A register pair loaded, the default advance, and nothing else (40_load_store.md R103). -/
def pairResult (s : State) (rd : Reg) (hi lo : Word) : State :=
  { done s with regs := withReg (withReg s.regs s.psr.cwp (rd &&& 30) hi) s.psr.cwp (rd ||| 1) lo }

/-- `r[rd] ← PC`, then a delayed transfer (42_control_transfer.md R226, R227). -/
def linked (s : State) (rd : Reg) (target : Word) : State :=
  { s with regs := withReg s.regs s.psr.cwp rd s.pc, pc := s.npc, npc := target }

/-- The trap entry (60_exceptions.md R420): what every trap leaves when ET = 1. -/
def entered (s : State) (t : TrapType) : State :=
  { s with
    psr := { s.psr with et := false, ps := s.psr.s, s := true, cwp := s.psr.cwp - 1 }
    regs := withReg (withReg s.regs (s.psr.cwp - 1) 17 s.pc) (s.psr.cwp - 1) 18 s.npc
    tbr := { s.tbr with tt := t }
    pc := s.tbr.tba ++ t ++ 0#4
    npc := s.tbr.tba ++ t ++ 0#4 + 4#32
    psrWin := .none
    wimWin := .none
    tbaWin := .none
    yWin := .none
    condDelay := false }

/-- A trap with ET = 1, error mode with ET = 0 (60_exceptions.md R420, R421). -/
def trapped (s : State) (t : TrapType) : State :=
  if s.psr.et then entered s t else { entered s t with mode := .error }

/-- A branch by the annul bit (42_control_transfer.md R222). The one bit of history of R242 is set by a conditional branch whose
delay instruction is executed. -/
def branched (s : State) (always taken annul : Bool) (disp : Int) : State :=
  let target := s.pc + s.plat.ctiBase + BitVec.ofInt 32 (4 * disp)
  if taken && always && annul then { s with pc := target, npc := target + 4 }
  else if taken then { s with pc := s.npc, npc := target, condDelay := !always }
  else if annul then { s with pc := s.npc + 4, npc := s.npc + 8 }
  else { s with pc := s.npc, npc := s.npc + 4, condDelay := !always }

/-- `t` is `u` but for PC and nPC, which are word-aligned, and the bit of history of R242, which is clear. -/
def Elsewhere (u t : State) : Prop :=
  ∃ p n : Word, p.toNat % 4 = 0 ∧ n.toNat % 4 = 0 ∧ t = { u with pc := p, npc := n, condDelay := false }

/-! ## Condition codes -/

/-- icc of an addition as 41_arith_logic_shift.md R171 writes it. -/
def addCodes (a b res : Word) : Icc :=
  let a31 := a.getLsbD 31
  let b31 := b.getLsbD 31
  let r31 := res.getLsbD 31
  { n := r31, z := decide (res = 0), v := (a31 && b31 && !r31) || (!a31 && !b31 && r31),
    c := (a31 && b31) || (!r31 && (a31 || b31)) }

/-- icc of a subtraction as 41_arith_logic_shift.md R172 writes it. -/
def subCodes (a b res : Word) : Icc :=
  let a31 := a.getLsbD 31
  let b31 := b.getLsbD 31
  let r31 := res.getLsbD 31
  { n := r31, z := decide (res = 0), v := (a31 && !b31 && !r31) || (!a31 && b31 && r31),
    c := (!a31 && b31) || (r31 && (!a31 || b31)) }

/-- The tag term of 41_arith_logic_shift.md R174. -/
def tagTerm (a b : Word) : Bool := decide (a.toNat % 4 ≠ 0 ∨ b.toNat % 4 ≠ 0)

/-- The 16 tests of Bicc and Ticc in cond order (42_control_transfer.md R223). -/
def iccTests (p : Psr) : List Bool :=
  [false, p.z, p.z || (p.n != p.v), p.n != p.v, p.c || p.z, p.c, p.n, p.v,
   true, !p.z, !(p.z || (p.n != p.v)), !(p.n != p.v), !(p.c || p.z), !p.c, !p.n, !p.v]

/-- The 16 tests of FBfcc and CBccc in cond order, as the values for which each holds (42_control_transfer.md R224, R225). -/
def pairTests (cc : BitVec 2) : List Bool :=
  ([[], [1, 2, 3], [1, 2], [1, 3], [1], [2, 3], [2], [3], [0, 1, 2, 3], [0], [0, 3], [0, 2], [0, 2, 3], [0, 1], [0, 1, 3],
    [0, 1, 2]] : List (List Nat)).map fun l => l.contains cc.toNat

/-! ## Memory -/

/-- The byte at a key of memory. -/
abbrev at' (s : State) (k : Nat) : Byte := byteAt s.mem k

/-- The word whose first byte is at a key. -/
def wordAt (s : State) (k : Nat) : Word := at' s k ++ at' s (k + 1) ++ at' s (k + 2) ++ at' s (k + 3)

/-- The key of an address in the standard address spaces, without a CMU. -/
def place (s : State) (va : Word) : Nat := memKey 0 (pinAddress s va)

/-- The bytes of a word, the most significant first. -/
def bytes4 (v : Word) : List Byte :=
  [v.extractLsb' 24 8, v.extractLsb' 16 8, v.extractLsb' 8 8, v.extractLsb' 0 8]

/-- `t` is `u` but for the bytes stored at the keys from `k` upwards, and the model's record of changed code. -/
def StoredAt (s u t : State) (k : Nat) (bs : List Byte) : Prop :=
  t = { u with mem := t.mem, codeHist := t.codeHist } ∧
    ∀ j, at' t j = if k ≤ j ∧ j < k + bs.length then bs.getD (j - k) 0 else at' s j

/-- The memory system answers an access of `n` bytes with a memory exception in one of them (20_memory.md R74, log 26); `on` is the
kind of cycle. -/
def FaultAt (s : State) (asi : Asi) (va : Word) (n : Nat) (on : MemFault → Bool) : Prop :=
  ∃ f ∈ s.plat.memFault, f.asi = pinAsi s asi ∧ on f = true ∧
    ∃ a, pinAddress s va ≤ a ∧ a < pinAddress s va + n ∧ f.lo ≤ a ∧ a ≤ f.hi

/-! ## The coprocessor -/

/-- The coprocessor `c` after one of its loads took a trap: its registers and CSR are its own affair (40_load_store.md R159, log
19), its mode and its queue are kept (60_exceptions.md R440). -/
def cpTrapped (s : State) (c : CpState) : CpState := cpWithRegisters c (Config.cpLoadTrap s.draws (cpRegisters c))

/-- One CPop of the queue has ended, the front one, in execution mode: it left the queue, or its exception is pending and it is the
front entry still. CCC shows CSR, and only a compare changed it (45_coprocessor.md R340, R344, R345; what else it did is log 19). -/
def CpEnded (c d : CpState) : Prop :=
  ∃ (e : QueueEntry) (rest : List QueueEntry), c.mode = .execution ∧ c.cq = e :: rest ∧
    (d.mode = .execution ∧ d.cq = rest ∨ d.mode = .pending ∧ d.cq = e :: rest) ∧ d.ccc = cpCccOfCsr d.csr ∧
    (Config.cpCompares e.instr = false → d.ccc = cpCccOfCsr c.csr)

/-- CPops of the queue have ended, one after another, none or more. -/
abbrev CpReached : CpState → CpState → Prop := Relation.ReflTransGen CpEnded

/-! ## The CMU -/

/-- `u` is `s` with a synchronous fault on record: SFSR holds its type FT and access type AT, FAV = 1 and OW = 0, SFAR the address
(22_cmu_registers_faults_reset.md R650, R660). -/
def Recorded (s u : State) (f : SyncFault) (kind : BitVec 3) (va : Word) : Prop :=
  u = { s with cmu := { s.cmu with sfsr := u.cmu.sfsr, sfar := va } } ∧ u.cmu.sfsr.extractLsb' 2 3 = f.ft ∧
    u.cmu.sfsr.extractLsb' 5 3 = kind ∧ u.cmu.sfsr.getLsbD 1 = true ∧ u.cmu.sfsr.getLsbD 0 = false

/-- The physical address of the entry of table level `k` for a virtual address, by the pointers in memory above it
(21_mmu_cache.md R615, R616). -/
def entryAddress (s : State) (va : Word) : Nat → Nat
  | 0 => s.cmu.ctpr.toNat / 2 ^ 10 * 2 ^ 14 + s.cmu.context.toNat * 4
  | k + 1 =>
    let ptp := (wordAt s (memKey 0 (entryAddress s va k))).toNat
    match k with
    | 0 => ptp / 2 ^ 6 * 2 ^ 10 + va.toNat / 2 ^ 24 * 4
    | 1 => ptp / 2 ^ 4 * 2 ^ 8 + va.toNat / 2 ^ 18 % 64 * 4
    | _ => ptp / 2 ^ 4 * 2 ^ 8 + va.toNat / 2 ^ 12 % 64 * 4

/-- The entry itself. -/
def entry (s : State) (va : Word) (k : Nat) : Word := wordAt s (memKey 0 (entryAddress s va k))

/-- The 32 bytes of memory from a key upwards are the given ones. -/
def lineAt (s : State) (k : Nat) (byte : Nat → Byte) : Prop := ∀ j < 32, at' s (k + j) = byte j

/-! ## Groups of instructions -/

/-- The integer loads with their sizes. -/
def loads (rd rs1 : Reg) (o : RegOrImm) : List (Instr × Nat) :=
  [(.ldsb rd rs1 o, 1), (.ldub rd rs1 o, 1), (.ldsh rd rs1 o, 2), (.lduh rd rs1 o, 2), (.ld rd rs1 o, 4), (.ldd rd rs1 o, 8)]

/-- The integer stores and atomic load-stores with their sizes. -/
def stores (rd rs1 : Reg) (o : RegOrImm) : List (Instr × Nat) :=
  [(.stb rd rs1 o, 1), (.sth rd rs1 o, 2), (.st rd rs1 o, 4), (.std rd rs1 o, 8), (.ldstub rd rs1 o, 1), (.swap rd rs1 o, 4)]

/-- The alternate-space loads with their sizes. -/
def loadsA (rd rs1 rs2 : Reg) (asi : Asi) : List (Instr × Nat) :=
  [(.ldsba rd rs1 rs2 asi, 1), (.lduba rd rs1 rs2 asi, 1), (.ldsha rd rs1 rs2 asi, 2), (.lduha rd rs1 rs2 asi, 2),
   (.lda rd rs1 rs2 asi, 4), (.ldda rd rs1 rs2 asi, 8)]

/-- The alternate-space stores and atomic load-stores with their sizes. -/
def storesA (rd rs1 rs2 : Reg) (asi : Asi) : List (Instr × Nat) :=
  [(.stba rd rs1 rs2 asi, 1), (.stha rd rs1 rs2 asi, 2), (.sta rd rs1 rs2 asi, 4), (.stda rd rs1 rs2 asi, 8),
   (.ldstuba rd rs1 rs2 asi, 1), (.swapa rd rs1 rs2 asi, 4)]

/-- The floating-point loads with their sizes. -/
def fpLoads (rd rs1 : Reg) (o : RegOrImm) : List (Instr × Nat) := [(.ldf rd rs1 o, 4), (.lddf rd rs1 o, 8), (.ldfsr rs1 o, 4)]

/-- The floating-point stores with their sizes, but STDFQ. -/
def fpStores (rd rs1 : Reg) (o : RegOrImm) : List (Instr × Nat) := [(.stf rd rs1 o, 4), (.stdf rd rs1 o, 8), (.stfsr rs1 o, 4)]

/-- The coprocessor loads with their sizes. -/
def cpLoads (rd rs1 : Reg) (o : RegOrImm) : List (Instr × Nat) := [(.ldc rd rs1 o, 4), (.lddc rd rs1 o, 8), (.ldcsr rs1 o, 4)]

/-- The coprocessor stores with their sizes, but STDCQ. -/
def cpStores (rd rs1 : Reg) (o : RegOrImm) : List (Instr × Nat) := [(.stc rd rs1 o, 4), (.stdc rd rs1 o, 8), (.stcsr rs1 o, 4)]

/-- Bicc in cond order. -/
def bicc (a : Bool) (d : Int) : List Instr :=
  [.bn a d, .be a d, .ble a d, .bl a d, .bleu a d, .bcs a d, .bneg a d, .bvs a d,
   .ba a d, .bne a d, .bg a d, .bge a d, .bgu a d, .bcc a d, .bpos a d, .bvc a d]

/-- FBfcc in cond order. -/
def fbfcc (a : Bool) (d : Int) : List Instr :=
  [.fbn a d, .fbne a d, .fblg a d, .fbul a d, .fbl a d, .fbug a d, .fbg a d, .fbu a d,
   .fba a d, .fbe a d, .fbue a d, .fbge a d, .fbuge a d, .fble a d, .fbule a d, .fbo a d]

/-- CBccc in cond order. -/
def cbccc (a : Bool) (d : Int) : List Instr :=
  [.cbn a d, .cb123 a d, .cb12 a d, .cb13 a d, .cb1 a d, .cb23 a d, .cb2 a d, .cb3 a d,
   .cba a d, .cb0 a d, .cb03 a d, .cb02 a d, .cb023 a d, .cb01 a d, .cb013 a d, .cb012 a d]

/-- Ticc in cond order. -/
def ticc (rs1 : Reg) (o : RegOrImm) : List Instr :=
  [.tn rs1 o, .te rs1 o, .tle rs1 o, .tl rs1 o, .tleu rs1 o, .tcs rs1 o, .tneg rs1 o, .tvs rs1 o,
   .ta rs1 o, .tne rs1 o, .tg rs1 o, .tge rs1 o, .tgu rs1 o, .tcc rs1 o, .tpos rs1 o, .tvc rs1 o]

/-- The compares. -/
def compares (rd rs1 rs2 : Reg) : List Instr :=
  [.fcmps rd rs1 rs2, .fcmpd rd rs1 rs2, .fcmpes rd rs1 rs2, .fcmped rd rs1 rs2]

/-- The FPops the CY7C602 does not implement (44_floating_point.md R350 to R362). -/
def extended (rd rs1 rs2 : Reg) : List Instr :=
  [.faddx rd rs1 rs2, .fsubx rd rs1 rs2, .fmulx rd rs1 rs2, .fdivx rd rs1 rs2, .fsqrtx rd rs1 rs2, .fitox rd rs1 rs2,
   .fstox rd rs1 rs2, .fdtox rd rs1 rs2, .fxtoi rd rs1 rs2, .fxtos rd rs1 rs2, .fxtod rd rs1 rs2, .fcmpx rd rs1 rs2,
   .fcmpex rd rs1 rs2]

/-- The implemented FPops, each with its end: what it computes and where it puts it (44_floating_point.md R310 to R332). -/
def fpEnds (s : State) (rd rs1 rs2 : Reg) : List (Instr × FpOutcome) :=
  let m := s.fsr.rd
  let x := (readF s rs1).toNat
  let y := (readF s rs2).toNat
  let xd := (readFd s rs1).toNat
  let yd := (readFd s rs2).toNat
  let sub (a b : FpValue) : FpExact := fpAdd m a b.neg
  [(.fmovs rd rs1 rs2, .done .none (.single rd (readF s rs2))),
   (.fnegs rd rs1 rs2, .done .none (.single rd (readF s rs2 ^^^ 0x80000000#32))),
   (.fabss rd rs1 rs2, .done .none (.single rd (readF s rs2 &&& 0x7FFFFFFF#32))),
   (.fadds rd rs1 rs2, fpBinary .single (fpAdd m) x y (.single rd) s),
   (.faddd rd rs1 rs2, fpBinary .double (fpAdd m) xd yd (.double rd) s),
   (.fsubs rd rs1 rs2, fpBinary .single sub x y (.single rd) s),
   (.fsubd rd rs1 rs2, fpBinary .double sub xd yd (.double rd) s),
   (.fmuls rd rs1 rs2, fpBinary .single fpMul x y (.single rd) s),
   (.fmuld rd rs1 rs2, fpBinary .double fpMul xd yd (.double rd) s),
   (.fdivs rd rs1 rs2, fpBinary .single (fpDiv 27) x y (.single rd) s),
   (.fdivd rd rs1 rs2, fpBinary .double (fpDiv 56) xd yd (.double rd) s),
   (.fsqrts rd rs1 rs2, fpUnary .single .single (fpSqrt 24) y (.single rd) s),
   (.fsqrtd rd rs1 rs2, fpUnary .double .double (fpSqrt 53) yd (.double rd) s),
   (.fitos rd rs1 rs2, fpFinish (.single rd) (roundExact .single m s.fsr.ns 0 (exactOfInt (readF s rs2).toInt))),
   (.fitod rd rs1 rs2, fpFinish (.double rd) (roundExact .double m s.fsr.ns 0 (exactOfInt (readF s rs2).toInt))),
   (.fstoi rd rs1 rs2, fpInteger .single y rd s),
   (.fdtoi rd rs1 rs2, fpInteger .double yd rd s),
   (.fstod rd rs1 rs2, fpUnary .single .double FpValue.exact y (.double rd) s),
   (.fdtos rd rs1 rs2, fpUnary .double .single FpValue.exact yd (.single rd) s),
   (.fcmps rd rs1 rs2, fpCmp .single false x y s),
   (.fcmpd rd rs1 rs2, fpCmp .double false xd yd s),
   (.fcmpes rd rs1 rs2, fpCmp .single true x y s),
   (.fcmped rd rs1 rs2, fpCmp .double true xd yd s)]

/-- Every FPop. -/
def fpops (rd rs1 rs2 : Reg) : List Instr :=
  [.fmovs rd rs1 rs2, .fnegs rd rs1 rs2, .fabss rd rs1 rs2, .fadds rd rs1 rs2, .faddd rd rs1 rs2, .fsubs rd rs1 rs2,
   .fsubd rd rs1 rs2, .fmuls rd rs1 rs2, .fmuld rd rs1 rs2, .fdivs rd rs1 rs2, .fdivd rd rs1 rs2, .fsqrts rd rs1 rs2,
   .fsqrtd rd rs1 rs2, .fitos rd rs1 rs2, .fitod rd rs1 rs2, .fstoi rd rs1 rs2, .fdtoi rd rs1 rs2, .fstod rd rs1 rs2,
   .fdtos rd rs1 rs2] ++ compares rd rs1 rs2 ++ extended rd rs1 rs2

/-- The state after an FPop with no enabled exception: its destination, CEXC and AEXC written (44_floating_point.md R294 d). -/
def written (s : State) (e : FpExc) (v : FpWrite) : State :=
  let fsr := { s.fsr with cexc := e, aexc := FpExc.ofBits (s.fsr.aexc.bits ||| e.bits) }
  match v with
  | .single rd x => { done s with f := s.f.setIfInBounds rd.toNat x, fsr := fsr }
  | .double rd x =>
    { done s with
      f := (s.f.setIfInBounds (rd &&& 30).toNat (x.extractLsb' 32 32)).setIfInBounds (rd ||| 1).toNat (x.extractLsb' 0 32)
      fsr := fsr }
  | .fcc x => { done s with fsr := { fsr with fcc := x } }

/-- The state after an FPop ends, by the four cases of 44_floating_point.md R294. -/
def ended (s : State) (w : Word) : FpOutcome → State
  | .unimplemented =>
    { done s with fsr := { s.fsr with ftt := 3 }, fq := s.fq ++ [{ addr := s.pc, instr := w }], fpMode := .pending }
  | .unfinished =>
    { done s with
      fsr := { s.fsr with ftt := 2, cexc := .none }, fq := s.fq ++ [{ addr := s.pc, instr := w }], fpMode := .pending }
  | .done e v =>
    if e.bits &&& s.fsr.tem.bits ≠ 0 then
      { done s with
        fsr := { s.fsr with ftt := 1, cexc := e }, fq := s.fq ++ [{ addr := s.pc, instr := w }], fpMode := .pending }
    else written s e v

/-- A pattern of a format that is a number and not denormalized. -/
def Number (f : FpFormat) (x : Nat) : Prop := f.exp x ≠ f.emax ∧ (f.exp x = 0 → f.frac x = 0)

/-- The number a pattern stands for (44_floating_point.md R285). -/
def numberOf (f : FpFormat) (x : Nat) : ℚ :=
  if f.exp x = 0 then 0
  else (if f.sign x then -1 else 1) * ((2 ^ f.fbits + f.frac x : Nat) : ℚ) * (2 : ℚ) ^ ((f.exp x : ℤ) - f.bias - f.fbits)

/-- A real number the format's range holds without tininess or overflow: zero, or of a magnitude from the smallest normalized to the
largest finite number (44_floating_point.md R291, R303). -/
def InRange (f : FpFormat) (v : ℝ) : Prop :=
  v = 0 ∨ (2 : ℝ) ^ (1 - (f.bias : ℤ)) ≤ |v| ∧ |v| ≤ (numberOf f (f.largest false) : ℝ)

/-- `x` is the pattern of `v` rounded to a format in the direction RD (44_floating_point.md R287 vi, R288): the nearest number, of
two nearest the one with a fraction that ends in 0; toward zero; toward plus infinity; toward minus infinity. -/
def Rounded (f : FpFormat) (rd : BitVec 2) (v : ℝ) (x : Nat) : Prop :=
  let val (y : Nat) : ℝ := (numberOf f y : ℝ)
  x < 2 ^ (1 + f.ebits + f.fbits) ∧ Number f x ∧
    match rd.toNat with
    | 0 => ∀ y, Number f y → |val x - v| < |val y - v| ∨ (|val x - v| = |val y - v| ∧ (val y = val x ∨ x % 2 = 0))
    | 1 => |val x| ≤ |v| ∧ 0 ≤ val x * v ∧ ∀ y, Number f y → |val y| ≤ |v| → |val y| ≤ |val x|
    | 2 => v ≤ val x ∧ ∀ y, Number f y → v ≤ val y → val x ≤ val y
    | _ => val x ≤ v ∧ ∀ y, Number f y → val y ≤ v → val y ≤ val x

/-- An instruction writes `v` rounded by FSR.RD, raising nx exactly where the result is not `v`, and nothing else
(44_floating_point.md R294 d, R304). -/
def Rounds (s : State) (f : FpFormat) (i : Instr) (put : Nat → FpWrite) (v : ℝ) : Prop :=
  ∃ (x : Nat) (nx : Bool), Rounded f s.fsr.rd v x ∧ (nx = true ↔ (numberOf f x : ℝ) ≠ v) ∧
    exec i s = .next (written s { FpExc.none with nx := nx } (put x))

/-- The CPops. -/
def cpops (rd rs1 rs2 : Reg) (opc : BitVec 9) : List Instr := [.cpop1 rd rs1 opc rs2, .cpop2 rd rs1 opc rs2]

/-- A compare of the coprocessor is at work: CCCV is down (45_coprocessor.md R345). -/
def Comparing (c : CpState) : Prop := c.mode = .execution ∧ ∃ e ∈ c.cq, Config.cpCompares e.instr = true

/-- The `c` registers a coprocessor load writes: LDDC from the even one, or from rd where the coprocessor does not force an odd rd
even, c[32] being c[0] (40_load_store.md R161, log 19). -/
def cpLoadsTo (rd : Reg) : Instr → List Nat
  | .ldc .. => [rd.toNat]
  | .lddc .. => let r := if Config.cpForcesEven then rd.toNat / 2 * 2 else rd.toNat; [r, (r + 1) % 32]
  | _ => []

/-- The exception of the coprocessor, which stands at `d`, is pending: a CPop, and a load or store at an aligned address, takes
cp_exception and is not executed (45_coprocessor.md R344). -/
def CpException (s : State) (d : CpState) (rd rs1 rs2 : Reg) (opc : BitVec 9) (o : RegOrImm) : Prop :=
  let t := { trapped s 40 with cp := { d with mode := .exception } }
  (∀ i ∈ cpops rd rs1 rs2 opc, exec i s = .next t) ∧
    (∀ p ∈ cpStores rd rs1 o, (ea s rs1 o).toNat % p.2 = 0 → exec p.1 s = .next t) ∧
    (∀ p ∈ cpLoads rd rs1 o, (ea s rs1 o).toNat % p.2 = 0 →
      exec p.1 s = .next { trapped s 40 with cp := { cpTrapped s d with mode := .exception } }) ∧
    (s.psr.s = true → (ea s rs1 o).toNat % 8 = 0 → exec (.stdcq rs1 o) s = .next t)

/-- The coprocessor, which stands at `d`, has no exception pending: what a CPop, and without a CMU a load or store at an aligned
address, does (45_coprocessor.md R343, 40_load_store.md R160 to R166). -/
def CpEffects (s : State) (d : CpState) (rd rs1 rs2 : Reg) (opc : BitVec 9) (o : RegOrImm) : Prop :=
  (∀ i ∈ cpops rd rs1 rs2 opc,
    let q := d.cq ++ [{ addr := s.pc, instr := encode i }]
    (d.mode = .execution → exec i s = .next { done s with cp := { d with cq := q } }) ∧
    (d.mode = .exception → ∃ t, exec i s = .next t ∧ t = { done s with cp := t.cp } ∧ t.cp.mode = .exception ∧
      t.cp.ccc = cpCccOfCsr t.cp.csr ∧ (t.cp.cq = d.cq ∨ t.cp.cq = q))) ∧
  (Quiet s →
    let e := ea s rs1 o
    let k := place s e
    let c (n : Reg) : Word := d.c.getD n.toNat 0
    (e.toNat % 4 = 0 →
      exec (.ldc rd rs1 o) s = .next { done s with cp := { d with c := d.c.setIfInBounds rd.toNat (wordAt s k) } } ∧
      (let csr := (wordAt s k &&& Config.cpCsrMask) ||| (d.csr &&& ~~~Config.cpCsrMask)
       exec (.ldcsr rs1 o) s = .next { done s with cp := { d with csr := csr, ccc := cpCccOfCsr csr } }) ∧
      (∃ t, exec (.stc rd rs1 o) s = .next t ∧ StoredAt s { done s with cp := d } t k (bytes4 (c rd))) ∧
      (∃ t, exec (.stcsr rs1 o) s = .next t ∧ StoredAt s { done s with cp := d } t k (bytes4 d.csr))) ∧
    (e.toNat % 8 = 0 →
      (let r := if Config.cpForcesEven then rd.toNat / 2 * 2 else rd.toNat
       exec (.lddc rd rs1 o) s = .next { done s with
         cp := { d with c := (d.c.setIfInBounds r (wordAt s k)).setIfInBounds ((r + 1) % 32) (wordAt s (k + 4)) } }) ∧
      (∃ t, exec (.stdc rd rs1 o) s = .next t ∧
        StoredAt s { done s with cp := d } t k (bytes4 (c (rd &&& 30)) ++ bytes4 (c (rd ||| 1))))) ∧
    (e.toNat % 8 = 0 → s.psr.s = true →
      let q := if Config.cpQueueAdvances s.draws d then d.cq.tail else d.cq
      let m := if d.mode = .exception ∧ q = [] then .execution else d.mode
      ∃ (t : State) (x y : Word), exec (.stdcq rs1 o) s = .next t ∧
        StoredAt s { done s with cp := { d with cq := q, mode := m } } t k (bytes4 x ++ bytes4 y) ∧
        (∀ (f : QueueEntry) (rest : List QueueEntry), d.cq = f :: rest → x = f.addr ∧ y = f.instr)))

/-- The instructions that may write memory or the code history: every store and atomic load-store. -/
def storing : Instr → Bool
  | .stb .. | .sth .. | .st .. | .std .. | .stba .. | .stha .. | .sta .. | .stda .. | .stf .. | .stdf .. | .stfsr ..
  | .stdfq .. | .ldstub .. | .ldstuba .. | .swap .. | .swapa .. | .stc .. | .stdc .. | .stcsr .. | .stdcq .. => true
  | _ => false

end Sys2Proof.Claims

open Sys2Proof Sys2Proof.Machine Sys2Proof.Claims

/-! ## Reset and the invariant -/

/-- Right after reset PC = 0, nPC = 4, the first fetch is in the supervisor instruction space (10_state.md R31), ET = 0 and S = 1
(R45), the FSR reads 0x00060000 and the FPU is in execution mode with an empty queue (R57; FTT = 0 is the spec's decision D6, log
14); memory is in canonical form. -/
def Obligations.ResetState : Prop :=
  State.reset.pc = 0 ∧ State.reset.npc = 4 ∧ instrAsi State.reset = 0x09#8 ∧ State.reset.psr.et = false ∧
    State.reset.psr.s = true ∧ State.reset.mode = .execute ∧ fsrWord State.reset = 0x00060000#32 ∧
    State.reset.fq = [] ∧ State.reset.fpMode = .execution ∧ Memory.wf State.reset.mem = true

/-- The step that ends a reset (10_state.md R45, R57; 70_reset_and_hazards.md R500): from reset mode with RESET and POR released,
PC = 0, nPC = 4, ET = 0, S = 1 and every other PSR field kept, the FSR 0x00060000, the FPU in execution mode with an empty
queue; every r and f register, WIM, TBR, Y, the coprocessor, the CMU and memory keep their values. FTT = 0 is the spec's
decision D6 (log 14); that the coprocessor keeps its state is the model's choice (log 20). -/
def Obligations.ResetStep : Prop :=
  ∀ s : State, s.mode = .reset → s.plat.resetPin = false → s.plat.porPin = false →
    ∃ t, step s = .next t ∧ t.mode = .execute ∧ t.pc = 0 ∧ t.npc = 4 ∧
      t.psr = { s.psr with et := false, s := true } ∧ fsrWord t = 0x00060000#32 ∧ t.fpMode = .execution ∧ t.fq = [] ∧
      t.regs = s.regs ∧ t.f = s.f ∧ t.wim = s.wim ∧ t.tbr = s.tbr ∧ t.y = s.y ∧ t.cp = s.cp ∧ t.cmu = s.cmu ∧
      (∀ k, at' t k = at' s k)

/-- The invariant that every step keeps holds at `State.reset`, whose open register values are log 2 and 3. -/
def Obligations.InvariantAtReset : Prop := State.reset.Inv

/-- Every step keeps the invariant: PC and nPC word-aligned (10_state.md R28); memory, the cache data and the tag arrays in canonical
form (the model's form, log 3); the write buffers four writes or one line (21_mmu_cache.md R625); the records of delayed writes
(log 7) and of changed code (log 10) well formed; the queue empty in execution mode, which is the model's choice to complete every
FPop at its dispatch (44_floating_point.md section 4, log 13, decision D15), and no longer than FQ_DEPTH; EC = 0 on a CY7C611;
the coprocessor's CCC the bits of its CSR, and its queue not empty out of execution mode (45_coprocessor.md R340, R344);
and the base of PC-relative targets, a parameter that no step changes, a multiple of 4 (log 5). -/
def Obligations.InvariantKeptByEveryStep : Prop := ∀ s t : State, s.Inv → step s = .next t → t.Inv

/-! ## Encoding -/

/-- Decoding the encoding of a well-formed instruction gives it back, for every instruction and every operand. -/
def Obligations.DecodeOfEncode : Prop :=
  ∀ i : Instr, i.wellFormed = true → decodeBytes (wordBytes (encode i)) = .instr i

/-- The words that are reserved are those of the op2 values 001, 011, 101 (30_encoding.md R87) and of the op3 values the tables
of R89 and R90 leave unassigned; the alternate-space forms with i = 1 are no instructions (40_load_store.md R104). -/
def Obligations.ReservedWords : Prop :=
  ∀ w : Word,
    (decode w = .reject .reserved ↔
      (w.toNat / 2 ^ 30 = 0 ∧ w.toNat / 2 ^ 22 % 8 ∈ [1, 3, 5]) ∨
      (w.toNat / 2 ^ 30 = 2 ∧ w.toNat / 2 ^ 19 % 64 ∈
        [0x09, 0x0A, 0x0B, 0x0D, 0x0E, 0x0F, 0x19, 0x1A, 0x1B, 0x1D, 0x1E, 0x1F, 0x2C, 0x2D, 0x2E, 0x2F, 0x3E, 0x3F]) ∨
      (w.toNat / 2 ^ 30 = 3 ∧ w.toNat / 2 ^ 19 % 64 ∈
        [0x08, 0x0B, 0x0C, 0x0E, 0x18, 0x1B, 0x1C, 0x1E, 0x22, 0x28, 0x29, 0x2A, 0x2B, 0x2C, 0x2D, 0x2E, 0x2F, 0x32,
         0x38, 0x39, 0x3A, 0x3B, 0x3C, 0x3D, 0x3E, 0x3F])) ∧
    (decode w = .reject .alternateImmediate ↔
      w.toNat / 2 ^ 30 = 3 ∧ w.getLsbD 13 = true ∧ w.toNat / 2 ^ 19 % 64 ∈
        [0x10, 0x11, 0x12, 0x13, 0x14, 0x15, 0x16, 0x17, 0x19, 0x1A, 0x1D, 0x1F])

/-- Words written out from the spec's encodings decode to the instructions they stand for. -/
def Obligations.WordsDecode : Prop :=
  decode 0x94020009#32 = .instr (.add 10 8 (.reg 9)) ∧ decode 0x94823FFF#32 = .instr (.addcc 10 8 (.imm (-1))) ∧
  decode 0x9DE3BFA0#32 = .instr (.save 14 14 (.imm (-96))) ∧ decode 0x32BFFFBF#32 = .instr (.bne true (-65)) ∧
  decode 0xD0804160#32 = .instr (.lda 8 1 0 0x0B) ∧ decode 0x89A00822#32 = .instr (.fadds 4 0 2) ∧
  decode 0x81CCA004#32 = .instr (.rett 18 (.imm 4)) ∧ decode 0x952A3FE4#32 = .instr (.sll 10 8 (.imm 4))

/-! ## A step -/

/-- Without a CMU, a step from execute mode at a boundary with no reset and no interrupt, where the four bytes at PC decode to an
instruction, is that instruction's meaning and then the model's end of a step: the counts of pending delayed writes (log 7) and of
changed code (log 10), the counter of free values (log 8) and the fall of INTACK (log 11). -/
def Obligations.StepRunsTheDecodedInstruction : Prop :=
  ∀ (s : State) (i : Instr), Quiet s → s.codeHist = [] → boundary s = .instruction → i.wellFormed = true →
    decodeBytes [at' s (place s s.pc), at' s (place s s.pc + 1), at' s (place s s.pc + 2), at' s (place s s.pc + 3)] =
      .instr i →
    step s = match exec i s with
      | .next t => .next (endStep t)
      | .fault r => .fault r
      | .refused r => .refused r

/-- Without a CMU, a step at a word of no row: a reserved word and an alternate-space form with i = 1 take illegal_instruction,
an FPop with an opf of no row is an unimplemented FPop (30_encoding.md R94, 44_floating_point.md R363), which ends in its own step
(log 13, decision D15). -/
def Obligations.StepAtAWordOfNoRow : Prop :=
  ∀ s : State, Settled s → Quiet s → s.codeHist = [] → boundary s = .instruction →
    (decode (wordAt s (place s s.pc)) = .reject .reserved ∨
      decode (wordAt s (place s s.pc)) = .reject .alternateImmediate → step s = .next (endStep (trapped s 2))) ∧
    (decode (wordAt s (place s s.pc)) = .reject .unassignedFpop → FpOn s → s.fpMode = .execution →
      step s = .next (endStep (ended s (wordAt s (place s s.pc)) .unimplemented)))

/-- What the step finds first (60_exceptions.md R445, R430): from execute mode with no reset asked for, the turn of another agent where
one has something to do and is chosen (00_scope.md R8; the choice is free, log 19, 28 and 43, but while a compare of the
coprocessor halts the IU some agent always acts, 45_coprocessor.md R345, as CoprocessorInstructions says); else an interrupt exactly when
ET = 1, the level is 15 or above PIL and not 0, and the environment chooses this boundary (log 11); its entry has tt = 16 plus the
level, and INTACK tells it (10_state.md R62); else the instruction. -/
def Obligations.InterruptBoundary : Prop :=
  ∀ s : State, Settled s → s.mode = .execute → s.plat.resetPin = false → s.plat.porPin = false → s.cmu.irst = false →
    step s =
      match agentTurn s with
      | some a => .next (endTurn (agentStep s a))
      | none =>
        if s.psr.et = true ∧ s.plat.irl ≠ 0 ∧ (s.plat.irl = 15 ∨ s.psr.pil < s.plat.irl) ∧
            Config.freeNat s.draws Use.interruptBoundary.ctorIdx % 2 = 1 then
          .next { endTurn (entered s (16 + s.plat.irl.setWidth 8)) with intack := true }
        else closeStep (instructionStep s)

/-- In error mode with no reset asserted: without a CMU the processor executes nothing more (60_exceptions.md R421), which the model
says as a fault (log 12); a CMU gives
a watchdog reset, which sets RR.WDR and SCR.BM and restarts the IU at PC = 0 with the TLB and TBR.tt kept
(22_cmu_registers_faults_reset.md R682). -/
def Obligations.ErrorMode : Prop :=
  ∀ s : State, s.mode = .error → s.plat.resetPin = false → s.plat.porPin = false → s.cmu.irst = false →
    (hasCmu s = false → step s = .fault .errorMode) ∧
    (hasCmu s = true → ∃ t, step s = .next t ∧ t.mode = .execute ∧ t.pc = 0 ∧ t.npc = 4 ∧
      t.psr = { s.psr with et := false, s := true } ∧ t.tbr = s.tbr ∧ t.cmu.rr.getLsbD 2 = true ∧
      t.cmu.scr = s.cmu.scr ||| 0x4000#32 ∧ t.cmu.tlb = s.cmu.tlb ∧ t.cmu.tags = s.cmu.tags ∧ (∀ k, at' t k = at' s k))

/-! ## Registers and traps -/

/-- The register windows (10_state.md R22, R24): the outs of a window are the ins of the next one, the globals are shared, and no
other two registers of two windows are the same; and a read after a write of a register: `r[0]` reads 0 and discards what is
written to it, every other register gives the value written, and a register elsewhere is unchanged. -/
def Obligations.RegisterWindows : Prop :=
  (∀ (w : BitVec 3) (k : Fin 8), regIndex w (24 + BitVec.ofNat 5 k) = regIndex (w + 1) (8 + BitVec.ofNat 5 k)) ∧
  (∀ (w x : BitVec 3) (n : Reg), n.toNat < 8 → regIndex w n = regIndex x n) ∧
  (∀ (w x : BitVec 3) (n m : Reg), regIndex w n = regIndex x m →
    n = m ∧ (w = x ∨ n.toNat < 8) ∨ (x = w + 1 ∧ m + 16 = n ∧ 24 ≤ n.toNat) ∨ (w = x + 1 ∧ n + 16 = m ∧ 24 ≤ m.toNat)) ∧
  (∀ (s : State) (w x : BitVec 3) (n m : Reg) (v : Word),
    regIn (setRegIn s w n v) x m =
      if m = 0 then 0 else if n ≠ 0 ∧ regIndex w n = regIndex x m then v else regIn s x m)

/-- Taking a trap (60_exceptions.md R420, R421). With ET = 1: ET ← 0, PS ← S, S ← 1, CWP ← CWP − 1, PC and nPC saved in r[17] and
r[18] of the new window, tt ← t, PC ← TBA ‖ t ‖ 0000, nPC ← that plus 4; nothing else changes. With ET = 0 the trap actions are
performed and the processor enters error mode. -/
def Obligations.TrapEntry : Prop :=
  ∀ (s : State) (t : TrapType), Settled s →
    let u := raise s t
    u = trapped s t ∧ u.psr.et = false ∧ u.psr.ps = s.psr.s ∧ u.psr.s = true ∧ u.psr.cwp = s.psr.cwp - 1 ∧
      regIn u (s.psr.cwp - 1) 17 = s.pc ∧ regIn u (s.psr.cwp - 1) 18 = s.npc ∧ u.tbr.tt = t ∧
      u.pc = s.tbr.tba ++ t ++ 0#4 ∧ u.npc = s.tbr.tba ++ t ++ 0#4 + 4#32 ∧
      u.mode = (if s.psr.et then s.mode else .error) ∧
      (∀ (w : BitVec 3) (n : Reg), regIndex w n ≠ regIndex (s.psr.cwp - 1) 17 →
        regIndex w n ≠ regIndex (s.psr.cwp - 1) 18 → regIn u w n = regIn s w n) ∧
      (∀ k, at' u k = at' s k)

/-! ## Arithmetic, logic and shifts -/

/-- The instructions that leave icc alone: `r[rd]` takes the result, and icc and everything else are unchanged. ADD, ADDX, SUB, SUBX
and the six logical instructions (41_arith_logic_shift.md R175 to R198); SETHI and the shifts, where a left shift multiplies by
2^count modulo 2^32, SRL divides the unsigned and SRA the signed number, rounding down, and the count is five bits (R200 to
R204). -/
def Obligations.ResultsWithoutConditionCodes : Prop :=
  ∀ (s : State) (rd rs1 : Reg) (o : RegOrImm) (n : ShiftCount) (imm22 : BitVec 22), Settled s →
    let a := reg s rs1
    let b := arg s o
    let k := shiftBy s n
    k < 32 ∧
    ∀ p ∈ ([(.add rd rs1 o, a + b), (.addx rd rs1 o, a + b + carry s), (.sub rd rs1 o, a - b),
        (.subx rd rs1 o, a - b - carry s), (.and rd rs1 o, a &&& b), (.andn rd rs1 o, a &&& ~~~b), (.or rd rs1 o, a ||| b),
        (.orn rd rs1 o, a ||| ~~~b), (.xor rd rs1 o, a ^^^ b), (.xnor rd rs1 o, a ^^^ ~~~b),
        (.sethi rd imm22, BitVec.ofNat 32 (imm22.toNat * 1024)), (.sll rd rs1 n, BitVec.ofNat 32 (a.toNat * 2 ^ k)),
        (.srl rd rs1 n, BitVec.ofNat 32 (a.toNat / 2 ^ k)), (.sra rd rs1 n, BitVec.ofInt 32 (a.toInt / 2 ^ k))] :
        List (Instr × Word)),
      exec p.1 s = .next (result s rd p.2)

/-- The condition codes of additions (41_arith_logic_shift.md R171): ADDcc, ADDXcc, TADDcc and TADDccTV write them by the
formulas, with the tag term in V for the tagged ones; TADDccTV traps instead when V would be 1. C is the carry out of bit 31 of
the full sum and V its signed overflow. -/
def Obligations.AdditionConditionCodes : Prop :=
  ∀ (s : State) (rd rs1 : Reg) (o : RegOrImm), Settled s →
    let a := reg s rs1
    let b := arg s o
    let c := carry s
    let i := addCodes a b (a + b)
    let x := addCodes a b (a + b + c)
    let tv := i.v || tagTerm a b
    exec (.addcc rd rs1 o) s = .next (flagged s rd (a + b) i) ∧
    exec (.addxcc rd rs1 o) s = .next (flagged s rd (a + b + c) x) ∧
    exec (.taddcc rd rs1 o) s = .next (flagged s rd (a + b) { i with v := tv }) ∧
    exec (.taddcctv rd rs1 o) s =
      (if tv then .next (trapped s 10) else .next (flagged s rd (a + b) { i with v := false })) ∧
    i.c = decide (2 ^ 32 ≤ a.toNat + b.toNat) ∧ x.c = decide (2 ^ 32 ≤ a.toNat + b.toNat + c.toNat) ∧
    i.v = decide (a.toInt + b.toInt ≠ (a + b).toInt) ∧ x.v = decide (a.toInt + b.toInt + c.toNat ≠ (a + b + c).toInt)

/-- The condition codes of subtractions (41_arith_logic_shift.md R172): SUBcc, SUBXcc, TSUBcc and TSUBccTV write them by the
formulas, with the tag term in V for the tagged ones; TSUBccTV traps instead when V would be 1. C is the borrow and V the
signed overflow. -/
def Obligations.SubtractionConditionCodes : Prop :=
  ∀ (s : State) (rd rs1 : Reg) (o : RegOrImm), Settled s →
    let a := reg s rs1
    let b := arg s o
    let c := carry s
    let i := subCodes a b (a - b)
    let x := subCodes a b (a - b - c)
    let tv := i.v || tagTerm a b
    exec (.subcc rd rs1 o) s = .next (flagged s rd (a - b) i) ∧
    exec (.subxcc rd rs1 o) s = .next (flagged s rd (a - b - c) x) ∧
    exec (.tsubcc rd rs1 o) s = .next (flagged s rd (a - b) { i with v := tv }) ∧
    exec (.tsubcctv rd rs1 o) s =
      (if tv then .next (trapped s 10) else .next (flagged s rd (a - b) { i with v := false })) ∧
    i.c = decide (a.toNat < b.toNat) ∧ x.c = decide (a.toNat < b.toNat + c.toNat) ∧
    i.v = decide (a.toInt - b.toInt ≠ (a - b).toInt) ∧ x.v = decide (a.toInt - b.toInt - c.toNat ≠ (a - b - c).toInt)

/-- The condition codes of the six logical instructions: N and Z of the result, V = C = 0 (41_arith_logic_shift.md R173). -/
def Obligations.LogicalConditionCodes : Prop :=
  ∀ (s : State) (rd rs1 : Reg) (o : RegOrImm), Settled s →
    let a := reg s rs1
    let b := arg s o
    ∀ p ∈ ([(.andcc rd rs1 o, a &&& b), (.andncc rd rs1 o, a &&& ~~~b), (.orcc rd rs1 o, a ||| b),
        (.orncc rd rs1 o, a ||| ~~~b), (.xorcc rd rs1 o, a ^^^ b), (.xnorcc rd rs1 o, a ^^^ ~~~b)] : List (Instr × Word)),
      exec p.1 s = .next (flagged s rd p.2 { n := p.2.getLsbD 31, z := decide (p.2 = 0), v := false, c := false })

/-- MULScc (41_arith_logic_shift.md R186): the partial product shifted right under N xor V, plus operand2 where Y[0] is 1; Y
shifted right under the low bit of `r[rs1]`; icc of the addition. -/
def Obligations.MultiplyStep : Prop :=
  ∀ (s : State) (rd rs1 : Reg) (o : RegOrImm), Settled s →
    let a := reg s rs1
    let op1 := BitVec.ofNat 32 (a.toNat / 2 + if s.psr.n = s.psr.v then 0 else 2 ^ 31)
    let op2 := if s.y.getLsbD 0 then arg s o else 0
    exec (.mulscc rd rs1 o) s = .next { flagged s rd (op1 + op2) (addCodes op1 op2 (op1 + op2)) with
      y := BitVec.ofNat 32 (s.y.toNat / 2 + a.toNat % 2 * 2 ^ 31) }

/-! ## Control transfer -/

/-- The branches outside the delay slot of a conditional branch, by the 16 conditions and the annul bit (42_control_transfer.md
R222): Bicc (R223); FBfcc with the FPU enabled and no exception pending, also in exception mode (R224); CBccc with the coprocessor
enabled (R225), once every compare accepted before it has ended (45_coprocessor.md R345, log 19): where that leaves no exception
pending, by the CCC of then, and else it takes cp_exception; that the coprocessor goes to exception mode also where ET = 0 is the model's
choice (log 50). The base of the target is the parameter of log 5. -/
def Obligations.Branches : Prop :=
  ∀ (s : State) (a : Bool) (d : Int), Settled s → s.condDelay = false →
    (∀ p ∈ (bicc a d).zip (iccTests s.psr), exec p.1 s = .next (branched s (p.1 = .ba a d) p.2 a d)) ∧
    (FpOn s → s.fpMode ≠ .pending →
      ∀ p ∈ (fbfcc a d).zip (pairTests s.fsr.fcc), exec p.1 s = .next (branched s (p.1 = .fba a d) p.2 a d)) ∧
    (CpOn s →
      (s.cp.mode ≠ .pending → ¬ Comparing s.cp →
        ∀ p ∈ (cbccc a d).zip (pairTests s.cp.ccc), exec p.1 s = .next (branched s (p.1 = .cba a d) p.2 a d)) ∧
      ∃ c, CpReached s.cp c ∧ ¬ Comparing c ∧
        (c.mode = .pending →
          ∀ i ∈ cbccc a d, exec i s = .next { trapped s 40 with cp := { c with mode := .exception } }) ∧
        (c.mode ≠ .pending → ∀ p ∈ (cbccc a d).zip (pairTests c.ccc),
          exec p.1 s = .next (branched { s with cp := c } (p.1 = .cba a d) p.2 a d)))

/-- CALL and JMPL: the link register takes PC, then a delayed transfer; JMPL to a target that is not word-aligned traps and
writes nothing (42_control_transfer.md R226, R227), outside the delay slot of a conditional branch; the base of the CALL target is
the parameter of log 5. -/
def Obligations.CallAndJump : Prop :=
  ∀ (s : State) (rd rs1 : Reg) (o : RegOrImm) (d : BitVec 30), Settled s → s.condDelay = false →
    exec (.call d) s = .next (linked s 15 (s.pc + s.plat.ctiBase + (d ++ 0#2))) ∧
    exec (.jmpl rd rs1 o) s =
      if (ea s rs1 o).toNat % 4 = 0 then .next (linked s rd (ea s rs1 o)) else .next (trapped s 7)

/-- RETT (42_control_transfer.md R228): with ET = 1 illegal_instruction, whatever S is; with ET = 0 error mode for the first of
S = 0, a window marked invalid and a misaligned target, in that order, which the spec infers; else ET ← 1,
S ← PS, CWP ← CWP + 1 and a delayed transfer. -/
def Obligations.ReturnFromTrap : Prop :=
  ∀ (s : State) (rs1 : Reg) (o : RegOrImm), Settled s → s.condDelay = false →
    exec (.rett rs1 o) s =
      if s.psr.et then .next (entered s 2)
      else if !s.psr.s then .next { entered s 3 with mode := .error }
      else if s.wim.getLsbD ((s.psr.cwp.toNat + 1) % 8) then .next { entered s 6 with mode := .error }
      else if (ea s rs1 o).toNat % 4 ≠ 0 then .next { entered s 7 with mode := .error }
      else .next { s with
        psr := { s.psr with et := true, s := s.psr.ps, cwp := s.psr.cwp + 1 }, pc := s.npc, npc := ea s rs1 o }

/-- SAVE and RESTORE (42_control_transfer.md R235, R236): a window trap that writes nothing where the new window is invalid;
else the sum formed in the old window is written in the new one. -/
def Obligations.SaveAndRestore : Prop :=
  ∀ (s : State) (rd rs1 : Reg) (o : RegOrImm), Settled s →
    let moved (w : BitVec 3) : State :=
      { done s with psr := { s.psr with cwp := w }, regs := withReg s.regs w rd (ea s rs1 o) }
    exec (.save rd rs1 o) s =
      (if s.wim.getLsbD ((s.psr.cwp.toNat + 7) % 8) then .next (trapped s 5) else .next (moved (s.psr.cwp - 1))) ∧
    exec (.restore rd rs1 o) s =
      (if s.wim.getLsbD ((s.psr.cwp.toNat + 1) % 8) then .next (trapped s 6) else .next (moved (s.psr.cwp + 1)))

/-- Ticc: the 16 conditions; a trap of type 128 plus the low seven bits of the sum, or the default advance
(42_control_transfer.md R229). -/
def Obligations.TrapsOnConditionCodes : Prop :=
  ∀ (s : State) (rs1 : Reg) (o : RegOrImm), Settled s →
    ∀ p ∈ (ticc rs1 o).zip (iccTests s.psr),
      exec p.1 s = .next (if p.2 then trapped s (BitVec.ofNat 8 (128 + (ea s rs1 o).toNat % 128)) else done s)

/-- A delayed transfer in the delay slot of a conditional branch (42_control_transfer.md R242; the model's form is log 9): Bicc, FBfcc
and CBccc with their unit enabled and no exception pending, CALL and JMPL, which still write their link register, and a RETT whose
checks pass, which still writes ET and CWP while S keeps its value. PC and nPC are word-aligned and otherwise free, and nothing
else changes. A CBccc does so once every compare accepted before it has ended (45_coprocessor.md R345, log 19); where that leaves an
exception pending it takes cp_exception, and that the coprocessor goes to exception mode also where ET = 0 is the model's choice
(log 50). -/
def Obligations.CoupleAfterConditionalBranch : Prop :=
  ∀ (s : State) (rd rs1 : Reg) (o : RegOrImm) (a : Bool) (d : Int) (d30 : BitVec 30), Settled s → s.condDelay = true →
    (∀ i ∈ bicc a d, ∃ t, exec i s = .next t ∧ Elsewhere s t) ∧
    (FpOn s → s.fpMode ≠ .pending → ∀ i ∈ fbfcc a d, ∃ t, exec i s = .next t ∧ Elsewhere s t) ∧
    (CpOn s →
      (s.cp.mode ≠ .pending → ¬ Comparing s.cp → ∀ i ∈ cbccc a d, ∃ t, exec i s = .next t ∧ Elsewhere s t) ∧
      ∃ c, CpReached s.cp c ∧ ¬ Comparing c ∧
        (c.mode = .pending →
          ∀ i ∈ cbccc a d, exec i s = .next { trapped s 40 with cp := { c with mode := .exception } }) ∧
        (c.mode ≠ .pending → ∀ i ∈ cbccc a d, ∃ t, exec i s = .next t ∧ Elsewhere { s with cp := c } t)) ∧
    (∃ t, exec (.call d30) s = .next t ∧ Elsewhere { s with regs := withReg s.regs s.psr.cwp 15 s.pc } t) ∧
    ((ea s rs1 o).toNat % 4 = 0 →
      ∃ t, exec (.jmpl rd rs1 o) s = .next t ∧ Elsewhere { s with regs := withReg s.regs s.psr.cwp rd s.pc } t) ∧
    (s.psr.et = false → s.psr.s = true → s.wim.getLsbD ((s.psr.cwp.toNat + 1) % 8) = false → (ea s rs1 o).toNat % 4 = 0 →
      ∃ t, exec (.rett rs1 o) s = .next t ∧ Elsewhere { s with psr := { s.psr with et := true, cwp := s.psr.cwp + 1 } } t)

/-! ## State registers -/

/-- RDY, and in supervisor mode RDPSR, RDWIM and RDTBR: `r[rd]` takes the register; impl and ver are the part's, bits 19:14 of
the PSR, 31:8 of the WIM and 3:0 of the TBR read 0 (43_state_register_misc.md R261 to R264, 10_state.md R33; the PSR's zeros are
the spec's decision D2, log 6). -/
def Obligations.StateRegisterReads : Prop :=
  ∀ (s : State) (rd : Reg), Settled s →
    exec (.rdy rd) s = .next (result s rd s.y) ∧
    (s.psr.s = true →
      (∃ w : Word, exec (.rdpsr rd) s = .next (result s rd w) ∧ w.extractLsb' 28 4 = 1#4 ∧
        w.extractLsb' 24 4 = (if s.plat.iu = .cy7c601 then 1#4 else 3#4) ∧ w.getLsbD 23 = s.psr.n ∧
        w.getLsbD 22 = s.psr.z ∧ w.getLsbD 21 = s.psr.v ∧ w.getLsbD 20 = s.psr.c ∧ w.extractLsb' 14 6 = 0#6 ∧
        w.getLsbD 13 = s.psr.ec ∧ w.getLsbD 12 = s.psr.ef ∧ w.extractLsb' 8 4 = s.psr.pil ∧ w.getLsbD 7 = s.psr.s ∧
        w.getLsbD 6 = s.psr.ps ∧ w.getLsbD 5 = s.psr.et ∧ w.extractLsb' 3 2 = 0#2 ∧ w.extractLsb' 0 3 = s.psr.cwp) ∧
      exec (.rdwim rd) s = .next (result s rd (BitVec.ofNat 32 s.wim.toNat)) ∧
      exec (.rdtbr rd) s = .next (result s rd (s.tbr.tba ++ s.tbr.tt ++ 0#4)))

/-- WRY, and in supervisor mode WRPSR, WRWIM and WRTBR: the register takes `r[rs1] xor operand2` in its writable bits, and the
write is delayed: the old and the new value are remembered for the three instructions that follow (log 7). A CWP field above 7 takes
illegal_instruction in either mode and writes nothing (43_state_register_misc.md R265 to R269). -/
def Obligations.StateRegisterWrites : Prop :=
  ∀ (s : State) (rs1 : Reg) (o : RegOrImm), Settled s →
    let v := reg s rs1 ^^^ arg s o
    exec (.wry rs1 o) s = .next { done s with y := v, yWin := { writes := [(s.y, v)], left := 4 } } ∧
    (8 ≤ v.toNat % 32 → exec (.wrpsr rs1 o) s = .next (trapped s 2)) ∧
    (s.psr.s = true →
      (v.toNat % 32 < 8 → ∃ p : Psr,
        exec (.wrpsr rs1 o) s = .next { done s with psr := p, psrWin := { writes := [(s.psr, p)], left := 4 } } ∧
        p.n = v.getLsbD 23 ∧ p.z = v.getLsbD 22 ∧ p.v = v.getLsbD 21 ∧ p.c = v.getLsbD 20 ∧
        p.ec = (v.getLsbD 13 && decide (s.plat.iu = .cy7c601)) ∧ p.ef = v.getLsbD 12 ∧ p.pil = v.extractLsb' 8 4 ∧
        p.s = v.getLsbD 7 ∧ p.ps = v.getLsbD 6 ∧ p.et = v.getLsbD 5 ∧ p.cwp = v.extractLsb' 0 3) ∧
      exec (.wrwim rs1 o) s = .next { done s with
        wim := v.extractLsb' 0 8, wimWin := { writes := [(s.wim, v.extractLsb' 0 8)], left := 4 } } ∧
      exec (.wrtbr rs1 o) s = .next { done s with
        tbr := { s.tbr with tba := v.extractLsb' 12 20 }
        tbaWin := { writes := [(s.tbr.tba, v.extractLsb' 12 20)], left := 4 } })

/-- A delayed write is over after the three instructions that follow it (70_reset_and_hazards.md R511): the count goes from 4 at
the write to 3, 2 and 1, and the fourth end of an instruction leaves no record (the representation is log 7). Within the window a
use gets the register's value or one it had before or after a write of the window: RDY of Y, RDTBR of TBA, SAVE of the WIM, Bicc
of the icc of the PSR; a field that no write of the window changed has its one value (43_state_register_misc.md R269). That Bicc
takes icc whole, all four flags of one such value, is the model's choice (log 7). A trap taken within the window goes to a vector
formed with such a TBA, saves what the registers hold, and leaves no window (log 7). -/
def Obligations.DelayedWriteWindow : Prop :=
  (∀ (w : Delayed Word) (x y : Word), let u := w.write x y
    (x, y) ∈ u.writes ∧ (∀ p ∈ w.writes, p ∈ u.writes) ∧ u.tick.left = 3 ∧ u.tick.tick.left = 2 ∧
      u.tick.tick.tick.left = 1 ∧ u.tick.tick.tick.writes = u.writes ∧ u.tick.tick.tick.tick = .none) ∧
  (∀ (s : State) (rd : Reg), s.psrWin.writes = [] →
    (∃ v ∈ s.y :: s.yWin.values, exec (.rdy rd) s = .next (result s rd v)) ∧
    (s.psr.s = true → ∃ v ∈ s.tbr.tba :: s.tbaWin.values, exec (.rdtbr rd) s = .next (result s rd (v ++ s.tbr.tt ++ 0#4)))) ∧
  (∀ (s : State) (rd rs1 : Reg) (o : RegOrImm), s.psrWin.writes = [] → s.tbaWin.writes = [] →
    ∃ w ∈ s.wim :: s.wimWin.values, exec (.save rd rs1 o) s =
      if w.getLsbD ((s.psr.cwp.toNat + 7) % 8) then .next (trapped s 5)
      else .next { done s with
        psr := { s.psr with cwp := s.psr.cwp - 1 }, regs := withReg s.regs (s.psr.cwp - 1) rd (ea s rs1 o) }) ∧
  (∀ (s : State) (a : Bool) (d : Int), s.condDelay = false → ∃ q ∈ s.psr :: s.psrWin.values,
    ((∀ p ∈ s.psrWin.writes, p.1.icc = p.2.icc) → q.icc = s.psr.icc) ∧
    ∀ p ∈ (bicc a d).zip (iccTests q), exec p.1 s = .next (branched s (p.1 = .ba a d) p.2 a d)) ∧
  (∀ (s : State) (t : TrapType), (∀ p ∈ s.psrWin.writes, p.1.et = p.2.et) → ∃ b ∈ s.tbr.tba :: s.tbaWin.values,
    raise s t = { trapped s t with pc := b ++ t ++ 0#4, npc := b ++ t ++ 0#4 + 4#32 })

/-- IFLUSH has no effect with IFT = 1 and is illegal with IFT = 0, on the CY7C611 too, where IFT is a parameter (log 23); UNIMP is
illegal whatever its constant is (43_state_register_misc.md R270, R271). -/
def Obligations.FlushAndUnimplemented : Prop :=
  ∀ (s : State) (rs1 : Reg) (o : RegOrImm) (c : BitVec 22), Settled s →
    exec (.iflush rs1 o) s = .next (if s.plat.iftPin then done s else trapped s 2) ∧
    exec (.unimp c) s = .next (trapped s 2)

/-! ## Loads and stores -/

/-- The integer loads without a CMU at an aligned address: `r[rd]` takes the bytes at the address, the first the most
significant, sign- or zero-extended; LDD writes the even and the odd register, an odd rd being forced even (40_load_store.md R103); no byte of
memory and nothing else changes (40_load_store.md R110 to R115, R102). -/
def Obligations.IntegerLoads : Prop :=
  ∀ (s : State) (rd rs1 : Reg) (o : RegOrImm), Settled s → Quiet s →
    let e := ea s rs1 o
    let k := place s e
    exec (.ldsb rd rs1 o) s = .next (result s rd ((at' s k).signExtend 32)) ∧
    exec (.ldub rd rs1 o) s = .next (result s rd ((at' s k).setWidth 32)) ∧
    (e.toNat % 2 = 0 → exec (.ldsh rd rs1 o) s = .next (result s rd ((at' s k ++ at' s (k + 1)).signExtend 32)) ∧
      exec (.lduh rd rs1 o) s = .next (result s rd ((at' s k ++ at' s (k + 1)).setWidth 32))) ∧
    (e.toNat % 4 = 0 → exec (.ld rd rs1 o) s = .next (result s rd (wordAt s k))) ∧
    (e.toNat % 8 = 0 → exec (.ldd rd rs1 o) s = .next (pairResult s rd (wordAt s k) (wordAt s (k + 4))))

/-- The integer stores and the atomic load-stores without a CMU at an aligned address: exactly the bytes at the address take the
register's low bytes, the most significant first; STD stores the even and the odd register, an odd rd being forced even (decision
D12, log 21); no register changes (40_load_store.md R125 to R128). LDSTUB and SWAP: `r[rd]` takes the old datum, and the bytes at
the address take 0xFF, or the old `r[rd]` (R150, R152). -/
def Obligations.IntegerStoresAndAtomics : Prop :=
  ∀ (s : State) (rd rs1 : Reg) (o : RegOrImm), Settled s → Quiet s →
    let e := ea s rs1 o
    let k := place s e
    let v := reg s rd
    (∃ t, exec (.stb rd rs1 o) s = .next t ∧ StoredAt s (done s) t k [v.extractLsb' 0 8]) ∧
    (e.toNat % 2 = 0 →
      ∃ t, exec (.sth rd rs1 o) s = .next t ∧ StoredAt s (done s) t k [v.extractLsb' 8 8, v.extractLsb' 0 8]) ∧
    (e.toNat % 4 = 0 → ∃ t, exec (.st rd rs1 o) s = .next t ∧ StoredAt s (done s) t k (bytes4 v)) ∧
    (e.toNat % 8 = 0 → ∃ t, exec (.std rd rs1 o) s = .next t ∧
      StoredAt s (done s) t k (bytes4 (reg s (rd &&& 30)) ++ bytes4 (reg s (rd ||| 1)))) ∧
    (∃ t, exec (.ldstub rd rs1 o) s = .next t ∧ StoredAt s (result s rd ((at' s k).setWidth 32)) t k [0xFF#8]) ∧
    (e.toNat % 4 = 0 →
      ∃ t, exec (.swap rd rs1 o) s = .next t ∧ StoredAt s (result s rd (wordAt s k)) t k (bytes4 v))

/-- The alternate-space loads in supervisor mode without a CMU, at an aligned address of an address space that the platform
answers from bank `b`: as the ordinary loads, at `r[rs1] + r[rs2]` of that bank. Where no bank answers they complete with a free
datum of their size, sign- or zero-extended (40_load_store.md R104, R116 to R121, 20_memory.md R70; which spaces answer is log
24). -/
def Obligations.AlternateLoads : Prop :=
  ∀ (s : State) (rd rs1 rs2 : Reg) (asi : Asi), Settled s → Quiet s → s.psr.s = true →
    let e := reg s rs1 + reg s rs2
    (∀ b, bareBank s asi = some b →
      let k := memKey b (pinAddress s e)
      exec (.ldsba rd rs1 rs2 asi) s = .next (result s rd ((at' s k).signExtend 32)) ∧
      exec (.lduba rd rs1 rs2 asi) s = .next (result s rd ((at' s k).setWidth 32)) ∧
      (e.toNat % 2 = 0 →
        exec (.ldsha rd rs1 rs2 asi) s = .next (result s rd ((at' s k ++ at' s (k + 1)).signExtend 32)) ∧
        exec (.lduha rd rs1 rs2 asi) s = .next (result s rd ((at' s k ++ at' s (k + 1)).setWidth 32))) ∧
      (e.toNat % 4 = 0 → exec (.lda rd rs1 rs2 asi) s = .next (result s rd (wordAt s k))) ∧
      (e.toNat % 8 = 0 → exec (.ldda rd rs1 rs2 asi) s = .next (pairResult s rd (wordAt s k) (wordAt s (k + 4))))) ∧
    (bareBank s asi = none →
      (∃ v : Byte, exec (.ldsba rd rs1 rs2 asi) s = .next (result s rd (v.signExtend 32))) ∧
      (∃ v : Byte, exec (.lduba rd rs1 rs2 asi) s = .next (result s rd (v.setWidth 32))) ∧
      (e.toNat % 2 = 0 →
        (∃ v : BitVec 16, exec (.ldsha rd rs1 rs2 asi) s = .next (result s rd (v.signExtend 32))) ∧
        (∃ v : BitVec 16, exec (.lduha rd rs1 rs2 asi) s = .next (result s rd (v.setWidth 32)))) ∧
      (e.toNat % 4 = 0 → ∃ v, exec (.lda rd rs1 rs2 asi) s = .next (result s rd v)) ∧
      (e.toNat % 8 = 0 → ∃ v w, exec (.ldda rd rs1 rs2 asi) s = .next (pairResult s rd v w)))

/-- The alternate-space stores and atomic load-stores in supervisor mode without a CMU, at an aligned address of an address space
that the platform answers from bank `b`: as the ordinary ones, at `r[rs1] + r[rs2]` of that bank; STDA forces an odd rd even
(decision D12, log 21). Where no bank answers, a store changes nothing, and an exchange loads a free datum of its size
(40_load_store.md R104, R129 to R132, R151, R153; log 24). -/
def Obligations.AlternateStores : Prop :=
  ∀ (s : State) (rd rs1 rs2 : Reg) (asi : Asi), Settled s → Quiet s → s.psr.s = true →
    let e := reg s rs1 + reg s rs2
    let v := reg s rd
    (∀ b, bareBank s asi = some b →
      let k := memKey b (pinAddress s e)
      (∃ t, exec (.stba rd rs1 rs2 asi) s = .next t ∧ StoredAt s (done s) t k [v.extractLsb' 0 8]) ∧
      (∃ t, exec (.ldstuba rd rs1 rs2 asi) s = .next t ∧
        StoredAt s (result s rd ((at' s k).setWidth 32)) t k [0xFF#8]) ∧
      (e.toNat % 2 = 0 → ∃ t, exec (.stha rd rs1 rs2 asi) s = .next t ∧
        StoredAt s (done s) t k [v.extractLsb' 8 8, v.extractLsb' 0 8]) ∧
      (e.toNat % 4 = 0 →
        (∃ t, exec (.sta rd rs1 rs2 asi) s = .next t ∧ StoredAt s (done s) t k (bytes4 v)) ∧
        (∃ t, exec (.swapa rd rs1 rs2 asi) s = .next t ∧ StoredAt s (result s rd (wordAt s k)) t k (bytes4 v))) ∧
      (e.toNat % 8 = 0 → ∃ t, exec (.stda rd rs1 rs2 asi) s = .next t ∧
        StoredAt s (done s) t k (bytes4 (reg s (rd &&& 30)) ++ bytes4 (reg s (rd ||| 1))))) ∧
    (bareBank s asi = none →
      (∀ p ∈ ([(.stba rd rs1 rs2 asi, 1), (.stha rd rs1 rs2 asi, 2), (.sta rd rs1 rs2 asi, 4), (.stda rd rs1 rs2 asi, 8)] :
        List (Instr × Nat)), e.toNat % p.2 = 0 → exec p.1 s = .next (done s)) ∧
      (∃ v : Byte, exec (.ldstuba rd rs1 rs2 asi) s = .next (result s rd (v.setWidth 32))) ∧
      (e.toNat % 4 = 0 → ∃ v, exec (.swapa rd rs1 rs2 asi) s = .next (result s rd v)))

/-- The floating-point loads without a CMU, FPU enabled and in execution mode, at an aligned address: LDF, LDDF on the even and
odd register, LDFSR into the loadable fields of the FSR; in exception mode no access, FTT ← 4 and back to pending exception
mode (40_load_store.md R139 to R142, 10_state.md R51, 44_floating_point.md R298; that LDFSR keeps FTT is the spec's decision D6,
log 14, and that a sequence error changes nothing else is its decision D19, log 16). -/
def Obligations.FloatingLoads : Prop :=
  ∀ (s : State) (rd rs1 : Reg) (o : RegOrImm), Settled s → Quiet s → FpOn s →
    let e := ea s rs1 o
    let k := place s e
    let w := wordAt s k
    (s.fpMode = .execution →
      (e.toNat % 4 = 0 →
        exec (.ldf rd rs1 o) s = .next { done s with f := s.f.setIfInBounds rd.toNat w } ∧
        ∃ x : Fsr, exec (.ldfsr rs1 o) s = .next { done s with fsr := x } ∧ x.rd = w.extractLsb' 30 2 ∧
          x.rp = w.extractLsb' 28 2 ∧ x.tem.bits = w.extractLsb' 23 5 ∧ x.ns = w.getLsbD 22 ∧ x.ftt = s.fsr.ftt ∧
          x.fcc = w.extractLsb' 10 2 ∧ x.aexc.bits = w.extractLsb' 5 5 ∧ x.cexc.bits = w.extractLsb' 0 5) ∧
      (e.toNat % 8 = 0 → exec (.lddf rd rs1 o) s = .next { done s with
        f := (s.f.setIfInBounds (rd &&& 30).toNat w).setIfInBounds (rd ||| 1).toNat (wordAt s (k + 4)) })) ∧
    (s.fpMode = .exception → ∀ p ∈ fpLoads rd rs1 o, e.toNat % p.2 = 0 →
      exec p.1 s = .next { done s with fsr := { s.fsr with ftt := 4 }, fpMode := .pending })

/-- The floating-point stores without a CMU, FPU enabled and no exception pending, at an aligned address: STF, STDF on the even
and odd register, STFSR with version 011 and QNE telling whether the queue is empty (40_load_store.md R144 to R146,
10_state.md R51, R52, R54). STDFQ in supervisor mode: the front entry is stored, its address first; in exception mode it leaves
the queue, and with the last entry the FPU returns to execution mode; with the queue empty two free words are stored
(40_load_store.md R149, 44_floating_point.md R299; the free words are log 22). -/
def Obligations.FloatingStores : Prop :=
  ∀ (s : State) (rd rs1 : Reg) (o : RegOrImm), Settled s → Quiet s → FpOn s →
    (s.fpMode ≠ .pending →
      let e := ea s rs1 o
      let k := place s e
      let f (n : Reg) : Word := s.f.getD n.toNat 0
      (e.toNat % 4 = 0 →
        (∃ t, exec (.stf rd rs1 o) s = .next t ∧ StoredAt s (done s) t k (bytes4 (f rd))) ∧
        (∃ (t : State) (w : Word), exec (.stfsr rs1 o) s = .next t ∧ StoredAt s (done s) t k (bytes4 w) ∧
          w.extractLsb' 30 2 = s.fsr.rd ∧ w.extractLsb' 28 2 = s.fsr.rp ∧ w.extractLsb' 23 5 = s.fsr.tem.bits ∧
          w.getLsbD 22 = s.fsr.ns ∧ w.extractLsb' 20 2 = 0#2 ∧ w.extractLsb' 17 3 = 3#3 ∧
          w.extractLsb' 14 3 = s.fsr.ftt ∧ w.getLsbD 13 = !s.fq.isEmpty ∧ w.getLsbD 12 = false ∧
          w.extractLsb' 10 2 = s.fsr.fcc ∧ w.extractLsb' 5 5 = s.fsr.aexc.bits ∧ w.extractLsb' 0 5 = s.fsr.cexc.bits)) ∧
      (e.toNat % 8 = 0 → ∃ t, exec (.stdf rd rs1 o) s = .next t ∧
        StoredAt s (done s) t k (bytes4 (f (rd &&& 30)) ++ bytes4 (f (rd ||| 1))))) ∧
    (s.psr.s = true → (ea s rs1 o).toNat % 8 = 0 →
      let k := place s (ea s rs1 o)
      (∀ (e : QueueEntry) (rest : List QueueEntry), s.fpMode = .exception → s.fq = e :: rest →
        ∃ t, exec (.stdfq rs1 o) s = .next t ∧
          StoredAt s { done s with fq := rest, fpMode := if rest = [] then .execution else .exception } t k
            (bytes4 e.addr ++ bytes4 e.instr)) ∧
      (s.fpMode = .execution → s.fq = [] →
        ∃ (t : State) (x y : Word), exec (.stdfq rs1 o) s = .next t ∧ StoredAt s (done s) t k (bytes4 x ++ bytes4 y)))

/-- The coprocessor enabled. It makes a CPop, load or store wait while CPops of its queue end, which may leave an exception pending
(45_coprocessor.md R341, R344), and at least until no compare is at work (R345); with none in the queue, and in exception mode,
nothing ends. Then, with no exception pending: a
CPop and its address go into the queue, in exception mode only as the coprocessor has it, and the IU advances (R343). Without a
CMU, at an aligned address: LDC; LDDC into two registers from the even one, or from rd where the coprocessor does not force an odd
rd even, c[32] being c[0]; LDCSR into the writable bits of CSR, which then shows its CCC; STC; STDC with an odd rd forced even
(decision D12, log 21); STCSR; STDCQ in supervisor mode stores the front entry, where there is one, and the queue advances or not
as the coprocessor has it, exception mode lasting until it is empty (40_load_store.md R160 to R166, 45_coprocessor.md R340). With
an exception pending, cp_exception; that the coprocessor goes to exception mode also where ET = 0 is the model's choice (log 50).
That a load is performed also in exception mode is the model's choice (log 19). In a step of the coprocessor's own, with a CPop at work, the front one ends. While a compare is
at work the IU is halted: no step executes an instruction of any kind or takes an interrupt (R345). What the coprocessor itself
decides is log 19. -/
def Obligations.CoprocessorInstructions : Prop :=
  (∀ (s : State) (rd rs1 rs2 : Reg) (opc : BitVec 9) (o : RegOrImm), Settled s → CpOn s →
    (s.cp.mode ≠ .pending → cpBusy s.cp = false → CpEffects s s.cp rd rs1 rs2 opc o) ∧
    ∃ d, CpReached s.cp d ∧ ¬ Comparing d ∧ (d.mode = .pending → CpException s d rd rs1 rs2 opc o) ∧
      (d.mode ≠ .pending → CpEffects s d rd rs1 rs2 opc o)) ∧
  (∀ s : State, cpBusy s.cp = true → ∃ d, agentStep s .coprocessor = { s with cp := d } ∧ CpEnded s.cp d) ∧
  (∀ s : State, s.plat.cpPresent = true → s.plat.iu = .cy7c601 → boundary s = .instruction ∨ boundary s = .interrupt →
    ¬ Comparing s.cp)

/-- A load or store whose address is not a multiple of its size takes mem_address_not_aligned and changes nothing else
(20_memory.md R67, 60_exceptions.md R407): the integer forms, the alternate-space forms in supervisor mode, and the
floating-point and coprocessor forms with their unit enabled, whatever its mode is; JMPL is CallAndJump. After a coprocessor load
the coprocessor's registers and CSR are its own affair (40_load_store.md R159, log 19). -/
def Obligations.MisalignedAccesses : Prop :=
  ∀ (s : State) (rd rs1 rs2 : Reg) (o : RegOrImm) (asi : Asi), Settled s →
    (∀ p ∈ loads rd rs1 o ++ stores rd rs1 o, (ea s rs1 o).toNat % p.2 ≠ 0 → exec p.1 s = .next (trapped s 7)) ∧
    (s.psr.s = true → ∀ p ∈ loadsA rd rs1 rs2 asi ++ storesA rd rs1 rs2 asi,
      (reg s rs1 + reg s rs2).toNat % p.2 ≠ 0 → exec p.1 s = .next (trapped s 7)) ∧
    (FpOn s → ∀ p ∈ fpLoads rd rs1 o ++ fpStores rd rs1 o, (ea s rs1 o).toNat % p.2 ≠ 0 →
      exec p.1 s = .next (trapped s 7)) ∧
    (FpOn s → s.psr.s = true → (ea s rs1 o).toNat % 8 ≠ 0 → exec (.stdfq rs1 o) s = .next (trapped s 7)) ∧
    (CpOn s → ∀ p ∈ cpStores rd rs1 o, (ea s rs1 o).toNat % p.2 ≠ 0 → exec p.1 s = .next (trapped s 7)) ∧
    (CpOn s → s.psr.s = true → (ea s rs1 o).toNat % 8 ≠ 0 → exec (.stdcq rs1 o) s = .next (trapped s 7)) ∧
    (CpOn s → ∀ p ∈ cpLoads rd rs1 o, (ea s rs1 o).toNat % p.2 ≠ 0 →
      exec p.1 s = .next { trapped s 7 with cp := cpTrapped s s.cp })

/-- A memory exception without a CMU (20_memory.md R74, 60_exceptions.md R411, 40_load_store.md R105; which accesses get one is a
parameter, log 26). In a data cycle of a load, a store, or either half of an atomic load-store at an aligned address, in the
integer, alternate-space, floating-point and coprocessor forms with their unit enabled and ready, it takes data_access_exception
and nothing else changes, no register and no byte of memory; so too where one of the two words of a doubleword meets it (decision
D13, log 21). The coprocessor forms wait as CoprocessorInstructions says; after a coprocessor load the registers the load does
not write are the coprocessor's own affair (40_load_store.md R159, log 19). That a coprocessor load makes its access also in
exception mode is the model's choice (log 19), and that a cp_exception due after the wait takes the coprocessor to exception mode
also where ET = 0 (log 50). In a fetch it takes instruction_access_exception. -/
def Obligations.MemoryExceptions : Prop :=
  ∀ (s : State) (rd rs1 rs2 : Reg) (opc : BitVec 9) (o : RegOrImm) (asi : Asi), Settled s → hasCmu s = false →
    let e := ea s rs1 o
    let x := reg s rs1 + reg s rs2
    let faulty (p : Instr × Nat) (on : MemFault → Bool) : Prop := e.toNat % p.2 = 0 ∧ FaultAt s (dataAsi s) e p.2 on
    let faultyA (p : Instr × Nat) (on : MemFault → Bool) : Prop := x.toNat % p.2 = 0 ∧ FaultAt s asi x p.2 on
    (∀ p ∈ loads rd rs1 o, faulty p MemFault.onRead → exec p.1 s = .next (trapped s 9)) ∧
    (∀ p ∈ stores rd rs1 o, faulty p MemFault.onWrite → exec p.1 s = .next (trapped s 9)) ∧
    (∀ p ∈ ([(.ldstub rd rs1 o, 1), (.swap rd rs1 o, 4)] : List (Instr × Nat)),
      faulty p MemFault.onRead → exec p.1 s = .next (trapped s 9)) ∧
    (s.psr.s = true →
      (∀ p ∈ loadsA rd rs1 rs2 asi, faultyA p MemFault.onRead → exec p.1 s = .next (trapped s 9)) ∧
      (∀ p ∈ storesA rd rs1 rs2 asi, faultyA p MemFault.onWrite → exec p.1 s = .next (trapped s 9)) ∧
      (∀ p ∈ ([(.ldstuba rd rs1 rs2 asi, 1), (.swapa rd rs1 rs2 asi, 4)] : List (Instr × Nat)),
        faultyA p MemFault.onRead → exec p.1 s = .next (trapped s 9))) ∧
    (FpOn s → s.fpMode ≠ .pending →
      (s.fpMode = .execution → ∀ p ∈ fpLoads rd rs1 o, faulty p MemFault.onRead → exec p.1 s = .next (trapped s 9)) ∧
      (∀ p ∈ fpStores rd rs1 o, faulty p MemFault.onWrite → exec p.1 s = .next (trapped s 9)) ∧
      (s.psr.s = true → faulty (.stdfq rs1 o, 8) MemFault.onWrite → exec (.stdfq rs1 o) s = .next (trapped s 9))) ∧
    (CpOn s →
      let aborted (d : CpState) : Prop :=
        (∀ p ∈ cpLoads rd rs1 o, faulty p MemFault.onRead → ∃ c : Vector Word 32,
          exec p.1 s = .next { trapped s 9 with cp := { d with c := c } } ∧ ∀ n ∈ cpLoadsTo rd p.1, c.getD n 0 = d.c.getD n 0) ∧
        (∀ p ∈ cpStores rd rs1 o, faulty p MemFault.onWrite → exec p.1 s = .next { trapped s 9 with cp := d }) ∧
        (s.psr.s = true → faulty (.stdcq rs1 o, 8) MemFault.onWrite →
          exec (.stdcq rs1 o) s = .next { trapped s 9 with cp := d })
      (s.cp.mode ≠ .pending → cpBusy s.cp = false → aborted s.cp) ∧
      ∃ d, CpReached s.cp d ∧ ¬ Comparing d ∧ (d.mode = .pending → CpException s d rd rs1 rs2 opc o) ∧
        (d.mode ≠ .pending → aborted d)) ∧
    (boundary s = .instruction → FaultAt s (instrAsi s) s.pc 4 MemFault.onFetch →
      step s = .next (endStep (trapped s 1)))

/-- Without a CMU no instruction but a store or an atomic load-store changes a byte of memory. -/
def Obligations.OnlyStoresWriteMemory : Prop :=
  ∀ (s t : State) (i : Instr), hasCmu s = false → storing i = false → exec i s = .next t → ∀ k, at' t k = at' s k

/-! ## Privilege and disabled units -/

/-- In user mode a privileged instruction takes privileged_instruction (60_exceptions.md R403): the alternate-space forms, STDFQ,
STDCQ, RDPSR, RDWIM, RDTBR, WRWIM, WRTBR, and WRPSR where the CWP field is legal. RETT is ReturnFromTrap. -/
def Obligations.PrivilegedInstructions : Prop :=
  ∀ (s : State) (rd rs1 rs2 : Reg) (asi : Asi) (o : RegOrImm), Settled s → s.psr.s = false →
    (∀ i ∈ (loadsA rd rs1 rs2 asi ++ storesA rd rs1 rs2 asi).map Prod.fst ++
        ([.stdfq rs1 o, .stdcq rs1 o, .rdpsr rd, .rdwim rd, .rdtbr rd, .wrwim rs1 o, .wrtbr rs1 o] : List Instr),
      exec i s = .next (trapped s 3)) ∧
    ((reg s rs1 ^^^ arg s o).toNat % 32 < 8 → exec (.wrpsr rs1 o) s = .next (trapped s 3))

/-- A unit that is disabled or absent. With EF = 0 or no FPU every FPop, FBfcc and floating-point load or store takes fp_disabled,
STDFQ in supervisor mode (60_exceptions.md R404). With EC = 0, no coprocessor, or on a CY7C611, every CPop, CBccc and
coprocessor load or store takes cp_disabled, STDCQ in supervisor mode (R405); after a load the registers and CSR of a coprocessor
that is there are its own affair (40_load_store.md R159, log 19). -/
def Obligations.DisabledUnits : Prop :=
  ∀ (s : State) (rd rs1 rs2 : Reg) (opc : BitVec 9) (o : RegOrImm) (a : Bool) (d : Int), Settled s →
    (s.psr.ef = false ∨ s.plat.fpuPresent = false →
      (∀ i ∈ fpops rd rs1 rs2 ++ fbfcc a d ++ (fpLoads rd rs1 o ++ fpStores rd rs1 o).map Prod.fst,
        exec i s = .next (trapped s 4)) ∧
      (s.psr.s = true → exec (.stdfq rs1 o) s = .next (trapped s 4))) ∧
    (s.psr.ec = false ∨ s.plat.cpPresent = false ∨ s.plat.iu = .cy7c611 →
      (∀ i ∈ ([.cpop1 rd rs1 opc rs2, .cpop2 rd rs1 opc rs2] : List Instr) ++ cbccc a d ++ (cpStores rd rs1 o).map Prod.fst,
        exec i s = .next (trapped s 36)) ∧
      (∀ i ∈ (cpLoads rd rs1 o).map Prod.fst, exec i s = .next { trapped s 36 with
        cp := if s.plat.cpPresent = true ∧ s.plat.iu = .cy7c601 then cpTrapped s s.cp else s.cp }) ∧
      (s.psr.s = true → exec (.stdcq rs1 o) s = .next (trapped s 36)))

/-- A unit with a pending exception. With the FPU enabled every FPop, FBfcc, and floating-point load or store at an aligned address
takes fp_exception and is not executed, and the FPU goes to exception mode (60_exceptions.md R409, 44_floating_point.md R296).
With the coprocessor enabled every CPop and CBccc, and a coprocessor load or store at an aligned address, takes cp_exception, and
the coprocessor goes to exception mode with its queue kept (60_exceptions.md R412, 45_coprocessor.md R344); after a load its
registers and CSR are its own affair (40_load_store.md R159, log 19). That the unit goes to exception mode also where ET = 0 is the model's choice (log
50). -/
def Obligations.PendingUnitExceptions : Prop :=
  ∀ (s : State) (rd rs1 rs2 : Reg) (opc : BitVec 9) (o : RegOrImm) (a : Bool) (d : Int), Settled s →
    (FpOn s → s.fpMode = .pending →
      let t := { trapped s 8 with fpMode := .exception }
      (∀ i ∈ fpops rd rs1 rs2 ++ fbfcc a d, exec i s = .next t) ∧
      (∀ p ∈ fpLoads rd rs1 o ++ fpStores rd rs1 o, (ea s rs1 o).toNat % p.2 = 0 → exec p.1 s = .next t) ∧
      (s.psr.s = true → (ea s rs1 o).toNat % 8 = 0 → exec (.stdfq rs1 o) s = .next t)) ∧
    (CpOn s → s.cp.mode = .pending → CpException s s.cp rd rs1 rs2 opc o ∧
      ∀ i ∈ cbccc a d, exec i s = .next { trapped s 40 with cp := { s.cp with mode := .exception } })

/-! ## Floating-point and coprocessor operations -/

/-- Every implemented FPop with the FPU enabled and in execution mode completes in its step: with the destination, CEXC and AEXC
written, or, for an enabled exception or an unfinished one, in the queue with FTT set and the FPU in pending exception mode
(44_floating_point.md R294, R306). The 13 extended-precision FPops: FTT ← 3, the FPop in the queue, the FPU in pending exception
mode, and no f register, fcc or other FSR field changed (R297, R350 to R362). In exception mode an FPop is a sequence error
(R298). The ends are stated with the model's own operations; what these compute, over the real numbers, is
ArithmeticIsCorrectlyRounded, ConversionsAreCorrectlyRounded, ComparesOrderNumbers and IntegerToDoubleIsExact. That every FPop
ends at its dispatch is log 13 (decision D15); the enabled exception, the NaN and conversion cases, the sequence error and the
unimplemented compares are the spec's decisions D17 to D20 (log 16); flushing is log 15, the quiet NaN log 17, the facts of the
IEEE standard log 18. -/
def Obligations.FpopCompletion : Prop :=
  ∀ (s : State) (rd rs1 rs2 : Reg), Settled s → FpOn s →
    (s.fpMode = .execution → ∀ p ∈ fpEnds s rd rs1 rs2, exec p.1 s = .next (ended s (encode p.1) p.2)) ∧
    (s.fpMode = .execution → ∀ i ∈ extended rd rs1 rs2, exec i s = .next { done s with
      fsr := { s.fsr with ftt := 3 }, fq := s.fq ++ [{ addr := s.pc, instr := encode i }], fpMode := .pending }) ∧
    (s.fpMode = .exception → ∀ i ∈ fpops rd rs1 rs2,
      exec i s = .next { done s with fsr := { s.fsr with ftt := 4 }, fpMode := .pending })

/-- FADD, FSUB, FMUL, FDIV and FSQRT of numbers, single and double (44_floating_point.md R287, R288, R313 to R322): where the exact
result, as a real number, is zero or in the range of normalized numbers, the destination takes it rounded by FSR.RD, nx is raised
exactly where rounding changed it, no other exception is, and nothing else changes (R294 d, R304), with the inexact exception
masked. That the FPop ends in its own step is log 13 (decision D15); the facts of the IEEE standard are log 18. -/
def Obligations.ArithmeticIsCorrectlyRounded : Prop :=
  ∀ (s : State) (rd rs1 rs2 : Reg), Settled s → FpOn s → s.fpMode = .execution → s.fsr.tem.nx = false →
    (let x := (s.f.getD rs1.toNat 0).toNat
     let y := (s.f.getD rs2.toNat 0).toNat
     let a : ℝ := numberOf .single x
     let b : ℝ := numberOf .single y
     let both := Number .single x ∧ Number .single y
     ∀ p ∈ ([(.fadds rd rs1 rs2, both, a + b), (.fsubs rd rs1 rs2, both, a - b), (.fmuls rd rs1 rs2, both, a * b),
        (.fdivs rd rs1 rs2, both ∧ b ≠ 0, a / b), (.fsqrts rd rs1 rs2, Number .single y ∧ 0 ≤ b, Real.sqrt b)] :
        List (Instr × Prop × ℝ)),
      p.2.1 → InRange .single p.2.2 → Rounds s .single p.1 (fun z => .single rd (BitVec.ofNat 32 z)) p.2.2) ∧
    (let x := (readFd s rs1).toNat
     let y := (readFd s rs2).toNat
     let a : ℝ := numberOf .double x
     let b : ℝ := numberOf .double y
     let both := Number .double x ∧ Number .double y
     ∀ p ∈ ([(.faddd rd rs1 rs2, both, a + b), (.fsubd rd rs1 rs2, both, a - b), (.fmuld rd rs1 rs2, both, a * b),
        (.fdivd rd rs1 rs2, both ∧ b ≠ 0, a / b), (.fsqrtd rd rs1 rs2, Number .double y ∧ 0 ≤ b, Real.sqrt b)] :
        List (Instr × Prop × ℝ)),
      p.2.1 → InRange .double p.2.2 → Rounds s .double p.1 (fun z => .double rd (BitVec.ofNat 64 z)) p.2.2)

/-- The conversions of numbers (44_floating_point.md R305, R323, R325 to R328), with the inexact exception masked. FiTOs, and FdTOs in
the range of normalized singles, round by FSR.RD, raising nx exactly where rounding changed the number; FsTOd is exact and raises
nothing; FsTOi and FdTOi drop the fractional part whatever RD is, raising nx exactly where there is one, and are unfinished where
the integer does not fit 32 bits (decision D20, log 16). Nothing else changes. That the FPop ends in its own step is log 13. -/
def Obligations.ConversionsAreCorrectlyRounded : Prop :=
  ∀ (s : State) (rd rs1 rs2 : Reg), Settled s → FpOn s → s.fpMode = .execution → s.fsr.tem.nx = false →
    let y := (s.f.getD rs2.toNat 0).toNat
    let yd := (readFd s rs2).toNat
    let whole (v : ℚ) : ℤ := if 0 ≤ v then ⌊v⌋ else ⌈v⌉
    Rounds s .single (.fitos rd rs1 rs2) (fun z => .single rd (BitVec.ofNat 32 z)) ((s.f.getD rs2.toNat 0).toInt : ℝ) ∧
    (Number .double yd → InRange .single (numberOf .double yd : ℝ) →
      Rounds s .single (.fdtos rd rs1 rs2) (fun z => .single rd (BitVec.ofNat 32 z)) (numberOf .double yd : ℝ)) ∧
    (Number .single y → ∃ x : DWord, exec (.fstod rd rs1 rs2) s = .next (written s .none (.double rd x)) ∧
      Number .double x.toNat ∧ numberOf .double x.toNat = numberOf .single y) ∧
    (∀ p ∈ ([(.fstoi rd rs1 rs2, .single, y), (.fdtoi rd rs1 rs2, .double, yd)] : List (Instr × FpFormat × Nat)),
      let v := numberOf p.2.1 p.2.2
      Number p.2.1 p.2.2 → exec p.1 s = .next (
        if -2 ^ 31 ≤ whole v ∧ whole v < 2 ^ 31 then
          written s { FpExc.none with nx := decide ((whole v : ℚ) ≠ v) } (.single rd (BitVec.ofInt 32 (whole v)))
        else ended s (encode p.1) .unfinished))

/-- The compares on numbers (44_floating_point.md R329 to R332): fcc is 0, 1 or 2 as the first number is equal to, less than or
greater than the second, as rational numbers, and no exception is raised. That the compare ends in its own step is log 13
(decision D15). -/
def Obligations.ComparesOrderNumbers : Prop :=
  ∀ (s : State) (rd rs1 rs2 : Reg), Settled s → FpOn s → s.fpMode = .execution →
    let order (p q : ℚ) : BitVec 2 := if p = q then 0 else if p < q then 1 else 2
    let x := (s.f.getD rs1.toNat 0).toNat
    let y := (s.f.getD rs2.toNat 0).toNat
    let xd := (readFd s rs1).toNat
    let yd := (readFd s rs2).toNat
    (Number .single x → Number .single y → ∀ i ∈ ([.fcmps rd rs1 rs2, .fcmpes rd rs1 rs2] : List Instr),
      exec i s = .next { done s with
        fsr := { s.fsr with fcc := order (numberOf .single x) (numberOf .single y), cexc := .none } }) ∧
    (Number .double xd → Number .double yd → ∀ i ∈ ([.fcmpd rd rs1 rs2, .fcmped rd rs1 rs2] : List Instr),
      exec i s = .next { done s with
        fsr := { s.fsr with fcc := order (numberOf .double xd) (numberOf .double yd), cexc := .none } })

/-- FiTOd is always exact (44_floating_point.md R324): the pair that holds `f[rd]` takes a number equal to the signed integer, no
exception is raised, and nothing else changes. That FiTOd ends in its own step is log 13 (decision D15). -/
def Obligations.IntegerToDoubleIsExact : Prop :=
  ∀ (s : State) (rd rs1 rs2 : Reg), Settled s → FpOn s → s.fpMode = .execution →
    ∃ x : DWord, exec (.fitod rd rs1 rs2) s = .next { done s with
        f := (s.f.setIfInBounds (rd &&& 30).toNat (x.extractLsb' 32 32)).setIfInBounds (rd ||| 1).toNat
          (x.extractLsb' 0 32)
        fsr := { s.fsr with cexc := .none } } ∧
      Number .double x.toNat ∧ numberOf .double x.toNat = ((s.f.getD rs2.toNat 0).toInt : ℚ)

/-! ## Rules of the whole machine -/

/-- From user mode, an instruction that reaches a next state leaves user mode only by a trap or by error mode, and changes none of
EF, EC, PIL, WIM and TBA (10_state.md R41; 60_exceptions.md R403, R421). -/
def Obligations.UserModeIsLeftOnlyByATrap : Prop :=
  ∀ (s t : State) (i : Instr), Settled s → s.psr.s = false → exec i s = .next t →
    t.psr.ef = s.psr.ef ∧ t.psr.ec = s.psr.ec ∧ t.psr.pil = s.psr.pil ∧ t.wim = s.wim ∧ t.tbr.tba = s.tbr.tba ∧
    (t.psr.s = true → t.psr.et = false ∧ t.psr.ps = false ∧ t.psr.cwp = s.psr.cwp - 1 ∧
      t.pc = s.tbr.tba ++ t.tbr.tt ++ 0#4 ∧ t.npc = t.pc + 4 ∧ (t.mode = s.mode ∨ t.mode = .error ∧ s.psr.et = false))

/-- An instruction puts the processor in error mode only where traps are disabled (60_exceptions.md R421). -/
def Obligations.ErrorModeOnlyWithTrapsDisabled : Prop :=
  ∀ (s t : State) (i : Instr), Settled s → s.mode = .execute → exec i s = .next t → t.mode = .error → s.psr.et = false

/-! ## The CMU -/

/-- The access check of the CMU refuses exactly what the access levels do not grant (21_mmu_cache.md R606): bit AT of the row of
an ACC says whether that access is allowed, and a user access to ACC 6 or 7 is a privilege violation, any other refusal a
protection error (22_cmu_registers_faults_reset.md R661). -/
def Obligations.AccessLevels : Prop :=
  ∀ acc at' : BitVec 3,
    let allowed := ((([0x03, 0x33, 0x0F, 0xFF, 0x0C, 0x23, 0x0A, 0xAA] : List Nat).getD acc.toNat 0) >>> at'.toNat) % 2 = 1
    checkAccess at' acc =
      if allowed then 0 else if acc.toNat ≥ 6 ∧ at'.toNat % 2 = 0 then 3 else 2

/-- Which entries of the TLB match (21_mmu_cache.md R604): the valid ones whose index tag agrees with the virtual address in the bits
above the size ST names, and whose context is the current one, or whose access level is 6 or 7 for a supervisor access. Where exactly
one matches, the access is allowed, and its M bit need not be set, the physical address takes from the entry's PPN the bits above
that size and the rest from the virtual address (R605); the state is unchanged. -/
def Obligations.TlbHitAddress : Prop :=
  (∀ (c : Cmu) (va : Word) (cxn : BitVec 12) (sup : Bool) (i : Fin 64),
    let e := c.tlb[i]
    let n := [12, 18, 24, 32].getD e.st.toNat 0
    i ∈ tlbMatches c (va.extractLsb' 12 20) cxn sup ↔
      e.v = true ∧ e.va.toNat * 2 ^ 12 / 2 ^ n = va.toNat / 2 ^ n ∧ (e.cxn = cxn ∨ (6 ≤ e.acc.toNat ∧ sup = true))) ∧
  (∀ (s : State) (va : Word) (sup : Bool) (at' : BitVec 3) (i : Fin 64),
    tlbMatches s.cmu (va.extractLsb' 12 20) s.cmu.context sup = [i] →
    checkAccess at' (s.cmu.tlb[i]).acc = 0 → (at'.getLsbD 2 = true → (s.cmu.tlb[i]).m = true) →
    ∃ p : Page, translate s va s.cmu.context sup (.access at') = (s, .ok p) ∧ p.c = (s.cmu.tlb[i]).c ∧
      p.address va =
        let n := 2 ^ ([12, 18, 24, 32].getD (s.cmu.tlb[i]).st.toNat 0)
        (s.cmu.tlb[i]).ppn.toNat * 2 ^ 12 / n * n + va.toNat % n)

/-- A table walk that succeeds (21_mmu_cache.md R609, R615 to R618): where no TLB entry matches, no cached pointer is valid, no write
waits in a buffer, the bus answers without an error, the entries of levels 0 to n − 1 are pointers and that of level n a page table
entry that allows the access, the physical address takes the bits above the size of that level from the entry and the rest from the
virtual address; R is set in the entry in memory, and M where the access is a store; no other byte of memory changes; and one TLB
entry, at the lowest value the replacement counter may have or above it (log 31), takes the translation while the others keep. -/
def Obligations.TableWalk : Prop :=
  ∀ (s : State) (va : Word) (sup : Bool) (at' : BitVec 3) (n : Nat), n ≤ 3 →
    tlbMatches s.cmu (va.extractLsb' 12 20) s.cmu.context sup = [] → s.plat.busFault = [] → s.cmu.wbuf = [] →
    s.cmu.rpr.getLsbD 0 = false → s.cmu.iptp.getLsbD 0 = false → s.cmu.dptp.getLsbD 0 = false →
    (∀ k < n, (entry s va k).toNat % 4 = 1) → (entry s va n).toNat % 4 = 2 →
    let e := entry s va n
    let e' := e ||| 0x20#32 ||| (if at'.getLsbD 2 then 0x40#32 else 0#32)
    let size := 2 ^ [32, 24, 18, 12].getD n 0
    let key := memKey 0 (entryAddress s va n)
    checkAccess at' (e.extractLsb' 2 3) = 0 →
    ∃ (t : State) (p : Page), translate s va s.cmu.context sup (.access at') = (t, .ok p) ∧ p.c = e.getLsbD 7 ∧
      p.address va = e.toNat / 2 ^ 8 * 2 ^ 12 / size * size + va.toNat % size ∧
      (∀ j, byteAt t.mem j = if key ≤ j ∧ j < key + 4 then (bytes4 e').getD (j - key) 0 else byteAt s.mem j) ∧
      ∃ i : Fin 64, min s.cmu.rc.toNat s.cmu.irc.toNat ≤ i ∧
        t.cmu.tlb[i] = { va := va.extractLsb' 12 20, cxn := s.cmu.context, ppn := e.extractLsb' 8 24, c := e.getLsbD 7,
                         m := e'.getLsbD 6, acc := e.extractLsb' 2 3, st := BitVec.ofNat 2 (3 - n), v := true } ∧
        ∀ j : Fin 64, j ≠ i → t.cmu.tlb[j] = s.cmu.tlb[j]

/-- A load, a store, an atomic load-store or a fetch through a CMU whose translation fails (22_cmu_registers_faults_reset.md R660, R663,
R664): with NF = 0 and no fault on record, read as FT = 0 (the model's reading, log 39), the IU takes data_access_exception, or
instruction_access_exception, and SFSR holds the fault's type, the access type and FAV = 1, OW = 0, SFAR the address; for a
doubleword it is the translation of its first word. That the fault of an atomic load-store has the access type of a store is the
model's choice (log 48). Memory, the destination and the rest of the CMU are as the failing translation left them. The CMU answers
the address (log 41). -/
def Obligations.TranslationFaultTraps : Prop :=
  ∀ (s s1 : State) (rd rs1 : Reg) (o : RegOrImm) (f : SyncFault), Settled s → hasCmu s = true → s.cmu.me = true →
    s.cmu.nf = false → s1.cmu.sfsr.extractLsb' 2 3 = 0#3 →
    let va := ea s rs1 o
    let kind (base : Nat) : BitVec 3 := BitVec.ofNat 3 (base + if s.psr.s then 1 else 0)
    (s.cmu.answers va = true → translate s va s.cmu.context s.psr.s (.access (kind 0)) = (s1, .error f) →
      ∀ p ∈ loads rd rs1 o, va.toNat % p.2 = 0 →
        ∃ u, exec p.1 s = .next (trapped u 9) ∧ Recorded s1 u f (kind 0) va) ∧
    (s.cmu.answers va = true → translate s va s.cmu.context s.psr.s (.access (kind 4)) = (s1, .error f) →
      ∀ p ∈ stores rd rs1 o, va.toNat % p.2 = 0 →
        ∃ u, exec p.1 s = .next (trapped u 9) ∧ Recorded s1 u f (kind 4) va) ∧
    (s.cmu.answers s.pc = true → s.cmu.bm = false → boundary s = .instruction →
      translate s s.pc s.cmu.context s.psr.s (.access (kind 2)) = (s1, .error f) →
        ∃ u, step s = .next (endStep (trapped (refresh u) 1)) ∧ Recorded s1 u f (kind 2) s.pc)

/-- The overwrite rules of the fault record (22_cmu_registers_faults_reset.md R664): a second fault is lost where the first is a
translation fault, or a data fault before an instruction fault; else it is recorded, with OW = 1 where the first was a data fault, or
an instruction fault and the second came with an instruction access. That the record which stands counts as the first fault for a
third one too, so that a lost one leaves OW as it stands, is the model's choice (log 39). No fault is on record where FT = 0 (log 39), and the FT a failed probe
leaves counts as the first fault, which is the model's choice (log 37). A load of the SFSR
gives its fields and clears it (R650); that VA[31:16] is ignored is the model's choice (log 34); the CMU answers the address
(log 41). -/
def Obligations.FaultRecordOverwrite : Prop :=
  (∀ (s : State) (f : SyncFault) (at' : BitVec 3) (va : Word),
    let ft0 := s.cmu.sfsr.extractLsb' 2 3
    let at0 := s.cmu.sfsr.extractLsb' 5 3
    let instr (a : BitVec 3) : Prop := a = 2 ∨ a = 3
    let lost := ft0 = 4 ∨ (ft0 ≠ 0 ∧ ¬instr at0 ∧ instr at' ∧ f.ft ≠ 4)
    let t := recordSync s f at' va
    (lost → t = s) ∧
    (¬lost → t = { s with cmu := { s.cmu with sfsr := t.cmu.sfsr, sfar := va } } ∧
      t.cmu.sfsr.extractLsb' 2 3 = f.ft ∧ t.cmu.sfsr.extractLsb' 5 3 = at' ∧ t.cmu.sfsr.getLsbD 1 = true ∧
      (t.cmu.sfsr.getLsbD 0 = true ↔ ft0 ≠ 0 ∧ (¬instr at0 ∨ instr at')))) ∧
  (∀ (s : State) (rd rs1 rs2 : Reg), Settled s → hasCmu s = true → s.psr.s = true →
    let va := reg s rs1 + reg s rs2
    s.cmu.answers va = true → va.toNat % 2 ^ 16 = 0x300 →
    ∃ w : Word, exec (.lda rd rs1 rs2 0x04) s = .next (result { s with cmu := { s.cmu with sfsr := 0 } } rd w) ∧
      w.extractLsb' 0 13 = s.cmu.sfsr.extractLsb' 0 13)

/-- Stores to CMU registers in supervisor mode (22_cmu_registers_faults_reset.md R643, R644; 21_mmu_cache.md R620): a word store
to CTPR or CXR writes the defined bits and clears the valid bits of RPR, IPTP and DPTP, and leaves the TLB and memory. That VA[31:16]
is ignored and VA[15:0] decoded exactly is the model's choice (log 34); the CMU answers the address (log 41). -/
def Obligations.ContextWritesInvalidatePointers : Prop :=
  ∀ (s : State) (rd rs1 rs2 : Reg), Settled s → hasCmu s = true → s.psr.s = true →
    let va := reg s rs1 + reg s rs2
    s.cmu.answers va = true →
    let v := reg s rd
    (va.toNat % 2 ^ 16 = 0x100 ∨ va.toNat % 2 ^ 16 = 0x200) →
    ∃ c : Cmu, exec (.sta rd rs1 rs2 0x04) s = .next { done s with cmu := c } ∧
      c.ctpr = (if va.toNat % 2 ^ 16 = 0x100 then v &&& 0xFFFFFC00#32 else s.cmu.ctpr) ∧
      c.cxr = (if va.toNat % 2 ^ 16 = 0x200 then v &&& 0x00000FFF#32 else s.cmu.cxr) ∧
      c.rpr.getLsbD 0 = false ∧ c.iptp.getLsbD 0 = false ∧ c.dptp.getLsbD 0 = false ∧
      c.scr = s.cmu.scr ∧ c.tlb = s.cmu.tlb ∧ c.tags = s.cmu.tags ∧ c.data = s.cmu.data

/-- TLB flush (22_cmu_registers_faults_reset.md R670): a word store to ASI 0x03 invalidates exactly the entries its TYPE names,
ST ignored, for the five types the spec gives, clears the valid bits of IPTP and DPTP, and leaves memory and the cache; the CMU
answers the address (log 41). -/
def Obligations.TlbFlush : Prop :=
  ∀ (s : State) (rd rs1 rs2 : Reg), Settled s → hasCmu s = true → s.psr.s = true →
    let va := reg s rs1 + reg s rs2
    let type := va.toNat / 256 % 16
    s.cmu.answers va = true → va.toNat % 4 = 0 → type < 5 →
    ∃ c : Cmu, exec (.sta rd rs1 rs2 0x03) s = .next { done s with cmu := c } ∧
      c.iptp.getLsbD 0 = false ∧ c.dptp.getLsbD 0 = false ∧ c.tags = s.cmu.tags ∧ c.data = s.cmu.data ∧
      ∀ i : Fin 64,
        let e := s.cmu.tlb[i]
        let here := e.cxn = s.cmu.context ∨ 6 ≤ e.acc.toNat
        let same (n : Nat) : Prop := e.va.toNat / 2 ^ n = va.toNat / 2 ^ 12 / 2 ^ n
        c.tlb[i] = { e with v := e.v && !decide (
          (type = 0 ∧ here ∧ same 0) ∨ (type = 1 ∧ here ∧ same 6) ∨ (type = 2 ∧ here ∧ same 12) ∨
            (type = 3 ∧ e.cxn = s.cmu.context ∧ e.acc.toNat < 6) ∨ type = 4) }

/-- The MMU probe (22_cmu_registers_faults_reset.md R671, decision D22): a word load from ASI 0x03 in supervisor mode. Where one TLB entry
matches in the current context it gives that entry as a page table entry with R set, and the state is else unchanged; where none does,
a walk that succeeds gives the entry it found and loads the TLB, and one that fails gives 0 with no trap and updates the FT and error
fields of the SFSR while SFAR, AT, FAV and OW keep (log 37). -/
def Obligations.Probe : Prop :=
  ∀ (s : State) (rd rs1 rs2 : Reg), Settled s → hasCmu s = true → s.psr.s = true →
    let va := reg s rs1 + reg s rs2
    let vpn := va.extractLsb' 12 20
    s.cmu.answers va = true → va.toNat % 4 = 0 →
    (∀ i : Fin 64, tlbMatches s.cmu vpn s.cmu.context true = [i] →
      let e := s.cmu.tlb[i]
      exec (.lda rd rs1 rs2 0x03) s =
        .next (result s rd (e.ppn ++ BitVec.ofBool e.c ++ BitVec.ofBool e.m ++ 1#1 ++ e.acc ++ 2#2))) ∧
    (∀ (s1 : State) (pte : Word) (level : Nat), tlbMatches s.cmu vpn s.cmu.context true = [] →
      tableWalk s va s.cmu.context .probe true = (s1, .ok (pte, level)) →
      ∃ u : State, exec (.lda rd rs1 rs2 0x03) s = .next (result u rd pte) ∧
        u = { s1 with cmu := { s1.cmu with tlb := u.cmu.tlb }, draws := u.draws } ∧
        ∃ i : Fin 64, u.cmu.tlb[i] = entryOfPte pte level vpn s.cmu.context ∧
          ∀ j : Fin 64, j ≠ i → u.cmu.tlb[j] = s1.cmu.tlb[j]) ∧
    (∀ (s1 : State) (f : SyncFault), tlbMatches s.cmu vpn s.cmu.context true = [] →
      tableWalk s va s.cmu.context .probe true = (s1, .error f) →
      ∃ w : Word, exec (.lda rd rs1 rs2 0x03) s = .next (result { s1 with cmu := { s1.cmu with sfsr := w } } rd 0) ∧
        w.extractLsb' 2 3 = f.ft ∧ w.extractLsb' 10 3 = errorBits f.err ∧
        w.extractLsb' 5 3 = s1.cmu.sfsr.extractLsb' 5 3 ∧ w.extractLsb' 0 2 = s1.cmu.sfsr.extractLsb' 0 2)

/-- The cache of a CY7C604 with the write buffers empty and no bus error, at an aligned address (21_mmu_cache.md R621 to R625). A load
that hits gives the cache's datum and changes nothing. A load that misses in an invalid line gives memory's datum, and the line
then holds memory's 32 bytes and hits. A write-through store goes to a write buffer; where it hits, the cache takes it too, and
where it misses the line is invalidated, none loaded. A copy-back store that hits changes the cache alone and makes the line
modified. -/
def Obligations.CacheAccesses : Prop :=
  ∀ (s : State) (va : Word) (sup : Bool) (page : Page) (size : Size) (v : DWord), is605 s = false → s.plat.busFault = [] →
    s.cmu.wbuf = [] → misaligned va size = false →
    let n := va.toNat / 32 % 2048
    let key := va.toNat % 2 ^ 16
    let pa := page.address va
    let stored (t : State) : Prop := ∀ j, byteAt t.cmu.data j =
      if key ≤ j ∧ j < key + size.bytes then (datumBytes v size).getD (j - key) 0 else byteAt s.cmu.data j
    (cacheHit s va sup = true → cachedRead s va sup page size = (s, .ok (datumAt s.cmu.data key size))) ∧
    ((tagAt s n).v = false → ∃ t, cachedRead s va sup page size = (t, .ok (datumAt s.mem (memKey 0 pa) size)) ∧
      cacheHit t va sup = true ∧ t.mem = s.mem ∧ t.cmu.wbuf = [] ∧
      lineAt s (memKey 0 (pa / 32 * 32)) fun j => byteAt t.cmu.data (32 * n + j)) ∧
    (s.cmu.cm = false → ∃ t, cachedWrite s va sup page size v = (t, none) ∧ t.mem = s.mem ∧
      t.cmu.wbuf = [{ bank := 0, pa := pa, bytes := datumBytes v size }] ∧
      (cacheHit s va sup = true → stored t ∧ t.cmu.tags = s.cmu.tags) ∧
      (cacheHit s va sup = false → t.cmu.data = s.cmu.data ∧ (tagAt t n).v = false)) ∧
    (s.cmu.cm = true → cacheHit s va sup = true → ∃ t, cachedWrite s va sup page size v = (t, none) ∧ t.mem = s.mem ∧
      t.cmu.wbuf = [] ∧ stored t ∧ lineModified t n = true)

/-- The write buffers (21_mmu_cache.md R625, 22_cmu_registers_faults_reset.md R666; that they drain in order is the spec's decision D7,
and what the spec does not say of them is log 28). A write of a store takes a free buffer of its own and memory is unchanged. A drain
takes the oldest: its bytes reach memory, or, on a bus error, they are lost and, with AFO = 0, AFSR and AFAR tell the error and the
address, where UC, TO and BE that stood before are replaced, the model's choice (log 28). A read of memory that is no cache miss gives what memory holds after all buffered writes (20_memory.md R78), with no bus
error. -/
def Obligations.WriteBuffers : Prop :=
  (∀ (s : State) (bank pa : Nat) (bs : List Byte), bs.length ≤ 8 → s.cmu.wbuf.length < 4 →
    (∀ b ∈ s.cmu.wbuf, b.bytes.length ≤ 8) →
    busWrite s bank pa bs =
      { s with cmu := { s.cmu with wbuf := s.cmu.wbuf ++ [{ bank := bank, pa := pa, bytes := bs }] } }) ∧
  (∀ (s : State) (b : WriteBuffer) (rest : List WriteBuffer), s.cmu.wbuf = b :: rest →
    let t := drainOne s
    let k := memKey b.bank b.pa
    t = { s with mem := t.mem, cmu := { s.cmu with wbuf := rest, afsr := t.cmu.afsr, afar := t.cmu.afar } } ∧
    (busError s true b.pa b.bytes.length = none → t.cmu.afsr = s.cmu.afsr ∧ t.cmu.afar = s.cmu.afar ∧
      ∀ j, at' t j = if k ≤ j ∧ j < k + b.bytes.length then b.bytes.getD (j - k) 0 else at' s j) ∧
    (∀ e, busError s true b.pa b.bytes.length = some e → t.mem = s.mem ∧
      (s.cmu.afsr.getLsbD 0 = true → t.cmu.afsr = s.cmu.afsr ∧ t.cmu.afar = s.cmu.afar) ∧
      (s.cmu.afsr.getLsbD 0 = false → t.cmu.afsr.getLsbD 0 = true ∧
        t.cmu.afsr.getLsbD 12 = decide (e = .uncorrectable) ∧ t.cmu.afsr.getLsbD 11 = decide (e = .timeout) ∧
        t.cmu.afsr.getLsbD 10 = decide (e = .bus) ∧ (t.cmu.afsr.extractLsb' 4 4).toNat = b.pa / 2 ^ 32 % 16 ∧
        t.cmu.afar.toNat = b.pa % 2 ^ 32))) ∧
  (∀ (s : State) (bank pa : Nat) (size : Size), s.plat.busFault = [] → pa + size.bytes ≤ 2 ^ 36 →
    (∀ b ∈ s.cmu.wbuf, b.pa + b.bytes.length ≤ 2 ^ 36) →
    let after := s.cmu.wbuf.foldl (fun m b => setBytes m (memKey b.bank b.pa) b.bytes) s.mem
    (busRead s bank pa size).2 = .ok (datumAt after (memKey bank pa) size))

/-- Snooping on a CY7C605 (21_mmu_cache.md R628): a transaction selects the MPTAG by VA[15:12] and PA[11:5], and hits where that is
valid and holds PA[35:12]. A coherent read that hits in copy-back mode leaves the line shared, and clean where memory reflects; the
others invalidate a line that hits, in both tag arrays; a coherent write and invalidate also writes its line to memory. A line that
misses, and every other line, keeps its tags. The line that this cache supplies is put into memory, as the bus's answer (log 43). -/
def Obligations.Snooping : Prop :=
  ∀ (s : State) (x : Snoop), is605 s = true →
    let n := (x.superset ++ x.line.extractLsb' 0 7).toNat
    let p := mptagAt s n
    let hit := p.v = true ∧ p.pa = x.line.extractLsb' 7 24
    let t := snoop s x
    let k := memKey 0 (x.line.toNat * 32)
    (∀ m, m ≠ n → tagAt t m = tagAt s m ∧ mptagAt t m = mptagAt s m) ∧
    (¬hit → t.cmu = s.cmu) ∧
    (hit → x.kind ≠ .cr → (tagAt t n).v = false ∧ (mptagAt t n).v = false) ∧
    (hit → x.kind = .cr → s.cmu.cm = true →
      tagAt t n = { tagAt s n with sh := true } ∧ mptagAt t n = { p with sh := true, m := p.m && !s.cmu.mr } ∧
      (p.m = true → s.cmu.mr = true → lineAt t k fun j => byteAt s.cmu.data (32 * n + j))) ∧
    (hit → x.kind = .cri → s.cmu.cm = true → p.m = true → lineAt t k fun j => byteAt s.cmu.data (32 * n + j)) ∧
    (∀ line, x.kind = .cwi line → line.length = 32 → lineAt t k fun j => line.getD j 0) ∧
    (∀ j, (j < k ∨ k + 32 ≤ j) → (∀ line, x.kind = .cwi line → line.length = 32) → at' t j = at' s j)

/-- The routes of accesses (21_mmu_cache.md R611, R612; 22_cmu_registers_faults_reset.md R654). Which addresses a CMU answers: with
MV = 1 those where VA[17:16] agree with MCA outside MCM, else all where it is the boot-mode CMU. Where it answers: by-pass takes
PA[35:32] from the ASI; an instruction-space access in boot mode goes to 0xFF ‖ VA[27:0], in the bank of log 42; with BM = 0 and
ME = 0 the four standard spaces go to 0 ‖ VA. Where it does not, it ignores every access but one to its SCR before MV is set
(log 41). -/
def Obligations.UntranslatedAccesses : Prop :=
  ∀ (s : State) (va : Word),
    (s.cmu.answers va = true ↔ if s.cmu.scr.getLsbD 19 then ∀ i : Fin 2, s.cmu.scr.getLsbD (20 + i) = false →
      va.getLsbD (16 + i) = s.cmu.scr.getLsbD (22 + i) else s.cmu.boot = true) ∧
    (s.cmu.answers va = true →
      (∀ n : Fin 16, cmuSpace s (0x20 + BitVec.ofNat 8 n) va = .direct 0 (n * 2 ^ 32 + va.toNat)) ∧
      (∀ asi ∈ ([0x08, 0x09] : List Asi), s.cmu.bm = true →
        cmuSpace s asi va = .direct (mblBank s true) (0xFF * 2 ^ 28 + va.toNat % 2 ^ 28)) ∧
      (∀ asi ∈ ([0x08, 0x09, 0x0A, 0x0B] : List Asi), s.cmu.bm = false → s.cmu.me = false →
        cmuSpace s asi va = .direct 0 va.toNat)) ∧
    (s.cmu.answers va = false → ∀ asi : Asi,
      cmuSpace s asi va = if s.cmu.scr.getLsbD 19 = false ∧ asi = 0x04 ∧ va.toNat % 2 ^ 16 = 0 then .registers else .silent)
end

