-- ==== Sys2Proof/Laws/Memory.lean ====
section
/-! SUPPORT. Laws of sparse data, bytes and data: read after write, and the canonical form. -/
namespace Sys2Proof.Machine

/-! ## Reading -/

theorem sparseGet_erase {α : Type} (d : α) (l : List (Nat × α)) (k j : Nat) :
    sparseGet d (sparseErase l k) j = if j = k then d else sparseGet d l j := by
  induction l with
  | nil => simp [sparseErase, sparseGet]
  | cons e rest ih =>
    obtain ⟨i, v⟩ := e
    by_cases hik : i = k <;> by_cases hjk : j = k <;> by_cases hij : i = j <;>
      simp_all [sparseErase, sparseGet]

theorem sparseGet_insert {α : Type} (d : α) (l : List (Nat × α)) (k : Nat) (v : α) (j : Nat)
    (h : sparseGet d l k = d) (hk : ∀ e ∈ l, e.1 ≠ k) :
    sparseGet d (sparseInsert l k v) j = if j = k then v else sparseGet d l j := by
  induction l with
  | nil => simp only [sparseInsert, sparseGet, eq_comm]
  | cons e rest ih =>
    obtain ⟨i, w⟩ := e
    have hi : i ≠ k := hk _ (List.mem_cons_self ..)
    have hr : ∀ e ∈ rest, e.1 ≠ k := fun e he => hk e (List.mem_cons_of_mem _ he)
    have hg : sparseGet d rest k = d := by simpa [sparseGet, hi] using h
    unfold sparseInsert
    split
    · simp only [sparseGet, ih hg hr]
      by_cases hjk : j = k
      · subst hjk; simp [hi]
      · simp [hjk]
    · simp only [sparseGet]
      by_cases hjk : k = j
      · simp [hjk]
      · simp [hjk, Ne.symm (Ne.intro hjk)]

theorem not_mem_erase {α : Type} (l : List (Nat × α)) (k : Nat) : ∀ e ∈ sparseErase l k, e.1 ≠ k := by
  induction l with
  | nil => simp [sparseErase]
  | cons e rest ih =>
    obtain ⟨i, v⟩ := e
    unfold sparseErase
    split
    · exact ih
    · rename_i h
      intro e he
      rcases List.mem_cons.mp he with rfl | he
      · exact h
      · exact ih e he

/-- A read after a write: the value at the key written, and every other key as before. -/
theorem sparseGet_set {α : Type} [DecidableEq α] (d : α) (l : List (Nat × α)) (k : Nat) (v : α) (j : Nat) :
    sparseGet d (sparseSet d l k v) j = if j = k then v else sparseGet d l j := by
  unfold sparseSet
  split
  · rename_i h; rw [sparseGet_erase, h]
  · rw [sparseGet_insert d _ k v j (by rw [sparseGet_erase]; simp) (not_mem_erase l k), sparseGet_erase]
    split <;> rfl

/-- A byte after a list of bytes was stored from `k` upwards. -/
theorem byteAt_setBytes (m : List Host.Cell) (k : Nat) (bs : List Byte) (j : Nat) :
    byteAt (setBytes m k bs) j = if k ≤ j ∧ j < k + bs.length then bs.getD (j - k) 0 else byteAt m j := by
  induction bs generalizing m k with
  | nil => simp only [setBytes, List.length_nil]; rw [if_neg (by omega)]
  | cons b rest ih =>
    simp only [setBytes, ih, List.length_cons]
    unfold byteAt
    rw [sparseGet_set]
    by_cases h1 : j = k
    · subst h1; rw [if_neg (by omega), if_pos rfl, if_pos (by omega)]; simp
    · by_cases h2 : k + 1 ≤ j ∧ j < k + 1 + rest.length
      · rw [if_pos h2, if_pos (by omega)]
        obtain ⟨n, hn⟩ : ∃ n, j - k = n + 1 := ⟨j - k - 1, by omega⟩
        rw [show j - (k + 1) = n by omega, hn, List.getD_cons_succ]
      · rw [if_neg h2, if_neg h1, if_neg (by omega)]

/-- A store leaves every byte outside it alone. -/
theorem byteAt_setBytes_outside (m : List Host.Cell) (k : Nat) (bs : List Byte) (j : Nat)
    (h : j < k ∨ k + bs.length ≤ j) : byteAt (setBytes m k bs) j = byteAt m j := by
  rw [byteAt_setBytes, if_neg (by omega)]

@[simp] theorem datumBytes_length (v : DWord) (size : Size) : (datumBytes v size).length = size.bytes := by
  cases size <;> rfl

/-- A byte after a datum was stored at `k`. -/
theorem byteAt_setDatum (m : List Host.Cell) (k : Nat) (size : Size) (v : DWord) (j : Nat) :
    byteAt (setDatum m k size v) j =
      if k ≤ j ∧ j < k + size.bytes then (datumBytes v size).getD (j - k) 0 else byteAt m j := by
  unfold setDatum; rw [byteAt_setBytes, datumBytes_length]

/-! ## The canonical form -/

theorem sparseWf_iff {α : Type} [DecidableEq α] (d : α) (l : List (Nat × α)) :
    sparseWf d l = true ↔ l.Pairwise (fun a b => a.1 < b.1) ∧ ∀ e ∈ l, e.2 ≠ d := by
  simp [sparseWf]

theorem sparseErase_eq_filter {α : Type} (l : List (Nat × α)) (k : Nat) :
    sparseErase l k = l.filter fun e => decide (e.1 ≠ k) := by
  induction l with
  | nil => rfl
  | cons e rest ih =>
    obtain ⟨i, v⟩ := e
    by_cases h : i = k <;> simp [sparseErase, h, ih]

theorem mem_sparseInsert {α : Type} (l : List (Nat × α)) (k : Nat) (v : α) (e : Nat × α) :
    e ∈ sparseInsert l k v ↔ e = (k, v) ∨ e ∈ l := by
  induction l with
  | nil => simp [sparseInsert]
  | cons f rest ih =>
    obtain ⟨i, w⟩ := f
    unfold sparseInsert
    split
    · simp only [List.mem_cons, ih]; tauto
    · simp only [List.mem_cons]

theorem pairwise_sparseInsert {α : Type} (l : List (Nat × α)) (k : Nat) (v : α)
    (h : l.Pairwise fun a b => a.1 < b.1) (hk : ∀ e ∈ l, e.1 ≠ k) :
    (sparseInsert l k v).Pairwise fun a b => a.1 < b.1 := by
  induction l with
  | nil => simp [sparseInsert]
  | cons f rest ih =>
    obtain ⟨i, w⟩ := f
    obtain ⟨h1, h2⟩ := List.pairwise_cons.mp h
    have hi : i ≠ k := hk _ (List.mem_cons_self ..)
    unfold sparseInsert
    split
    · rename_i hlt
      refine List.pairwise_cons.mpr ⟨?_, ih h2 fun e he => hk e (List.mem_cons_of_mem _ he)⟩
      intro e he
      rcases (mem_sparseInsert rest k v e).mp he with rfl | he
      · exact hlt
      · exact h1 e he
    · rename_i hlt
      refine List.pairwise_cons.mpr ⟨?_, h⟩
      intro e he
      rcases List.mem_cons.mp he with rfl | he
      · show k < i; omega
      · have := h1 e he; show k < e.1; simp only at this; omega

/-- A write keeps the canonical form. -/
theorem sparseWf_set {α : Type} [DecidableEq α] (d : α) (l : List (Nat × α)) (k : Nat) (v : α)
    (h : sparseWf d l = true) : sparseWf d (sparseSet d l k v) = true := by
  obtain ⟨h1, h2⟩ := (sparseWf_iff d l).mp h
  have he1 : (sparseErase l k).Pairwise fun a b => a.1 < b.1 := by
    rw [sparseErase_eq_filter]; exact h1.filter _
  have he2 : ∀ e ∈ sparseErase l k, e.2 ≠ d := by
    rw [sparseErase_eq_filter]; exact fun e he => h2 e (List.mem_filter.mp he).1
  refine (sparseWf_iff d _).mpr ?_
  unfold sparseSet
  split
  · exact ⟨he1, he2⟩
  · rename_i hv
    refine ⟨pairwise_sparseInsert _ k v he1 (not_mem_erase l k), ?_⟩
    intro e he
    rcases (mem_sparseInsert _ k v e).mp he with rfl | he
    · exact hv
    · exact he2 e he

/-- A store of bytes keeps the canonical form of memory. -/
theorem wf_setBytes (m : List Host.Cell) (k : Nat) (bs : List Byte) (h : Memory.wf m = true) :
    Memory.wf (setBytes m k bs) = true := by
  induction bs generalizing m k with
  | nil => exact h
  | cons b rest ih => exact ih _ _ (sparseWf_set _ _ _ _ h)

/-- A store of a datum keeps the canonical form of memory. -/
theorem wf_setDatum (m : List Host.Cell) (k : Nat) (size : Size) (v : DWord) (h : Memory.wf m = true) :
    Memory.wf (setDatum m k size v) = true := wf_setBytes m k _ h

/-- Nothing listed is the canonical form. -/
theorem sparseWf_nil {α : Type} [DecidableEq α] (d : α) : sparseWf d ([] : List (Nat × α)) = true := by
  simp [sparseWf]

/-- Memory at reset is in canonical form. -/
theorem reset_mem_wf : Memory.wf State.reset.mem = true := sparseWf_nil _

/-- Dropping entries and changing values to others that are not the default keeps the canonical form. -/
theorem sparseWf_map_filter {α : Type} [DecidableEq α] (d : α) (f : α → α) (l : List (Nat × α))
    (h : sparseWf d l = true) :
    sparseWf d ((l.map fun e => (e.1, f e.2)).filter fun e => decide (e.2 ≠ d)) = true := by
  obtain ⟨h1, _⟩ := (sparseWf_iff d l).mp h
  refine (sparseWf_iff d _).mpr ⟨?_, ?_⟩
  · exact List.Pairwise.filter _ (List.pairwise_map.mpr (h1.imp fun hab => hab))
  · intro e he; simpa using (List.mem_filter.mp he).2

/-- Two memories in canonical form that read the same at every key are equal. -/
theorem sparseWf_ext {α : Type} [DecidableEq α] (d : α) (l l' : List (Nat × α)) (h : sparseWf d l = true)
    (h' : sparseWf d l' = true) (hg : ∀ k, sparseGet d l k = sparseGet d l' k) : l = l' := by
  have below : ∀ (x : List (Nat × α)) (k : Nat), (∀ e ∈ x, k < e.1) → sparseGet d x k = d := by
    intro x
    induction x with
    | nil => intros; rfl
    | cons e rest ih =>
      obtain ⟨i, w⟩ := e
      intro k hk
      have : k < i := hk _ (List.mem_cons_self ..)
      simp only [sparseGet]
      rw [if_neg (by omega)]
      exact ih k fun e he => hk e (List.mem_cons_of_mem _ he)
  induction l generalizing l' with
  | nil =>
    cases l' with
    | nil => rfl
    | cons e rest =>
      obtain ⟨i, w⟩ := e
      have := ((sparseWf_iff d _).mp h').2 _ (List.mem_cons_self ..)
      have hi := hg i
      simp [sparseGet] at hi this
      exact absurd hi.symm this
  | cons e rest ih =>
    obtain ⟨i, w⟩ := e
    obtain ⟨hp, hn⟩ := (sparseWf_iff d _).mp h
    obtain ⟨hp1, hp2⟩ := List.pairwise_cons.mp hp
    cases l' with
    | nil =>
      have := hn _ (List.mem_cons_self ..)
      have hi := hg i
      simp [sparseGet] at hi this
      exact absurd hi this
    | cons e' rest' =>
      obtain ⟨j, w'⟩ := e'
      obtain ⟨hp', hn'⟩ := (sparseWf_iff d _).mp h'
      obtain ⟨hp1', hp2'⟩ := List.pairwise_cons.mp hp'
      have hij : i = j := by
        rcases Nat.lt_trichotomy i j with hlt | heq | hgt
        · have hi := hg i
          rw [below ((j, w') :: rest') i (fun e he => by
            rcases List.mem_cons.mp he with rfl | he
            · exact hlt
            · exact Nat.lt_trans hlt (hp1' e he))] at hi
          simp only [sparseGet, if_true] at hi
          exact absurd hi (hn _ (List.mem_cons_self ..))
        · exact heq
        · have hi := hg j
          rw [below ((i, w) :: rest) j (fun e he => by
            rcases List.mem_cons.mp he with rfl | he
            · exact hgt
            · exact Nat.lt_trans hgt (hp1 e he))] at hi
          simp only [sparseGet, if_true] at hi
          exact absurd hi.symm (hn' _ (List.mem_cons_self ..))
      subst hij
      have hw : w = w' := by have := hg i; simpa [sparseGet] using this
      subst hw
      have : rest = rest' := by
        refine ih rest' ((sparseWf_iff d _).mpr ⟨hp2, fun e he => hn e (List.mem_cons_of_mem _ he)⟩)
          ((sparseWf_iff d _).mpr ⟨hp2', fun e he => hn' e (List.mem_cons_of_mem _ he)⟩) ?_
        intro k
        by_cases hk : i = k
        · subst hk; rw [below rest i hp1, below rest' i hp1']
        · have := hg k; simpa [sparseGet, hk] using this
      rw [this]

end Sys2Proof.Machine
end

