-- ==== Sys2Proof/Laws/State.lean ====
section
/-! SUPPORT. One lemma per field per update of the state, so that no later proof unfolds a record update. -/
namespace Sys2Proof.Machine

/-! `advance` -/

@[simp] theorem advance_regs (s : State) : (advance s).regs = s.regs := rfl
@[simp] theorem advance_mode (s : State) : (advance s).mode = s.mode := rfl
@[simp] theorem advance_psr (s : State) : (advance s).psr = s.psr := rfl
@[simp] theorem advance_wim (s : State) : (advance s).wim = s.wim := rfl
@[simp] theorem advance_tbr (s : State) : (advance s).tbr = s.tbr := rfl
@[simp] theorem advance_y (s : State) : (advance s).y = s.y := rfl
@[simp] theorem advance_psrWin (s : State) : (advance s).psrWin = s.psrWin := rfl
@[simp] theorem advance_wimWin (s : State) : (advance s).wimWin = s.wimWin := rfl
@[simp] theorem advance_tbaWin (s : State) : (advance s).tbaWin = s.tbaWin := rfl
@[simp] theorem advance_yWin (s : State) : (advance s).yWin = s.yWin := rfl
@[simp] theorem advance_codeHist (s : State) : (advance s).codeHist = s.codeHist := rfl
@[simp] theorem advance_f (s : State) : (advance s).f = s.f := rfl
@[simp] theorem advance_fsr (s : State) : (advance s).fsr = s.fsr := rfl
@[simp] theorem advance_fq (s : State) : (advance s).fq = s.fq := rfl
@[simp] theorem advance_fpMode (s : State) : (advance s).fpMode = s.fpMode := rfl
@[simp] theorem advance_cp (s : State) : (advance s).cp = s.cp := rfl
@[simp] theorem advance_cmu (s : State) : (advance s).cmu = s.cmu := rfl
@[simp] theorem advance_mem (s : State) : (advance s).mem = s.mem := rfl
@[simp] theorem advance_intack (s : State) : (advance s).intack = s.intack := rfl
@[simp] theorem advance_snoops (s : State) : (advance s).snoops = s.snoops := rfl
@[simp] theorem advance_plat (s : State) : (advance s).plat = s.plat := rfl
@[simp] theorem advance_draws (s : State) : (advance s).draws = s.draws := rfl

@[simp] theorem advance_pc (s : State) : (advance s).pc = s.npc := rfl
@[simp] theorem advance_npc (s : State) : (advance s).npc = s.npc + 4 := rfl
@[simp] theorem advance_condDelay (s : State) : (advance s).condDelay = false := rfl

/-! `setIcc` -/

@[simp] theorem setIcc_regs (s : State) (i : Icc) : (setIcc s i).regs = s.regs := rfl
@[simp] theorem setIcc_pc (s : State) (i : Icc) : (setIcc s i).pc = s.pc := rfl
@[simp] theorem setIcc_npc (s : State) (i : Icc) : (setIcc s i).npc = s.npc := rfl
@[simp] theorem setIcc_mode (s : State) (i : Icc) : (setIcc s i).mode = s.mode := rfl
@[simp] theorem setIcc_wim (s : State) (i : Icc) : (setIcc s i).wim = s.wim := rfl
@[simp] theorem setIcc_tbr (s : State) (i : Icc) : (setIcc s i).tbr = s.tbr := rfl
@[simp] theorem setIcc_y (s : State) (i : Icc) : (setIcc s i).y = s.y := rfl
@[simp] theorem setIcc_psrWin (s : State) (i : Icc) : (setIcc s i).psrWin = s.psrWin := rfl
@[simp] theorem setIcc_wimWin (s : State) (i : Icc) : (setIcc s i).wimWin = s.wimWin := rfl
@[simp] theorem setIcc_tbaWin (s : State) (i : Icc) : (setIcc s i).tbaWin = s.tbaWin := rfl
@[simp] theorem setIcc_yWin (s : State) (i : Icc) : (setIcc s i).yWin = s.yWin := rfl
@[simp] theorem setIcc_condDelay (s : State) (i : Icc) : (setIcc s i).condDelay = s.condDelay := rfl
@[simp] theorem setIcc_codeHist (s : State) (i : Icc) : (setIcc s i).codeHist = s.codeHist := rfl
@[simp] theorem setIcc_f (s : State) (i : Icc) : (setIcc s i).f = s.f := rfl
@[simp] theorem setIcc_fsr (s : State) (i : Icc) : (setIcc s i).fsr = s.fsr := rfl
@[simp] theorem setIcc_fq (s : State) (i : Icc) : (setIcc s i).fq = s.fq := rfl
@[simp] theorem setIcc_fpMode (s : State) (i : Icc) : (setIcc s i).fpMode = s.fpMode := rfl
@[simp] theorem setIcc_cp (s : State) (i : Icc) : (setIcc s i).cp = s.cp := rfl
@[simp] theorem setIcc_cmu (s : State) (i : Icc) : (setIcc s i).cmu = s.cmu := rfl
@[simp] theorem setIcc_mem (s : State) (i : Icc) : (setIcc s i).mem = s.mem := rfl
@[simp] theorem setIcc_intack (s : State) (i : Icc) : (setIcc s i).intack = s.intack := rfl
@[simp] theorem setIcc_snoops (s : State) (i : Icc) : (setIcc s i).snoops = s.snoops := rfl
@[simp] theorem setIcc_plat (s : State) (i : Icc) : (setIcc s i).plat = s.plat := rfl
@[simp] theorem setIcc_draws (s : State) (i : Icc) : (setIcc s i).draws = s.draws := rfl

@[simp] theorem setIcc_psr (s : State) (i : Icc) : (setIcc s i).psr = s.psr.withIcc i := rfl

/-! `withCmu` -/

@[simp] theorem withCmu_regs (s : State) (c : Cmu) : (withCmu s c).regs = s.regs := rfl
@[simp] theorem withCmu_pc (s : State) (c : Cmu) : (withCmu s c).pc = s.pc := rfl
@[simp] theorem withCmu_npc (s : State) (c : Cmu) : (withCmu s c).npc = s.npc := rfl
@[simp] theorem withCmu_mode (s : State) (c : Cmu) : (withCmu s c).mode = s.mode := rfl
@[simp] theorem withCmu_psr (s : State) (c : Cmu) : (withCmu s c).psr = s.psr := rfl
@[simp] theorem withCmu_wim (s : State) (c : Cmu) : (withCmu s c).wim = s.wim := rfl
@[simp] theorem withCmu_tbr (s : State) (c : Cmu) : (withCmu s c).tbr = s.tbr := rfl
@[simp] theorem withCmu_y (s : State) (c : Cmu) : (withCmu s c).y = s.y := rfl
@[simp] theorem withCmu_psrWin (s : State) (c : Cmu) : (withCmu s c).psrWin = s.psrWin := rfl
@[simp] theorem withCmu_wimWin (s : State) (c : Cmu) : (withCmu s c).wimWin = s.wimWin := rfl
@[simp] theorem withCmu_tbaWin (s : State) (c : Cmu) : (withCmu s c).tbaWin = s.tbaWin := rfl
@[simp] theorem withCmu_yWin (s : State) (c : Cmu) : (withCmu s c).yWin = s.yWin := rfl
@[simp] theorem withCmu_condDelay (s : State) (c : Cmu) : (withCmu s c).condDelay = s.condDelay := rfl
@[simp] theorem withCmu_codeHist (s : State) (c : Cmu) : (withCmu s c).codeHist = s.codeHist := rfl
@[simp] theorem withCmu_f (s : State) (c : Cmu) : (withCmu s c).f = s.f := rfl
@[simp] theorem withCmu_fsr (s : State) (c : Cmu) : (withCmu s c).fsr = s.fsr := rfl
@[simp] theorem withCmu_fq (s : State) (c : Cmu) : (withCmu s c).fq = s.fq := rfl
@[simp] theorem withCmu_fpMode (s : State) (c : Cmu) : (withCmu s c).fpMode = s.fpMode := rfl
@[simp] theorem withCmu_cp (s : State) (c : Cmu) : (withCmu s c).cp = s.cp := rfl
@[simp] theorem withCmu_mem (s : State) (c : Cmu) : (withCmu s c).mem = s.mem := rfl
@[simp] theorem withCmu_intack (s : State) (c : Cmu) : (withCmu s c).intack = s.intack := rfl
@[simp] theorem withCmu_snoops (s : State) (c : Cmu) : (withCmu s c).snoops = s.snoops := rfl
@[simp] theorem withCmu_plat (s : State) (c : Cmu) : (withCmu s c).plat = s.plat := rfl
@[simp] theorem withCmu_draws (s : State) (c : Cmu) : (withCmu s c).draws = s.draws := rfl

@[simp] theorem withCmu_cmu (s : State) (c : Cmu) : (withCmu s c).cmu = c := rfl

/-! `setRegIn` -/

@[simp] theorem setRegIn_pc (s : State) (w : BitVec 3) (n : Reg) (v : Word) : (setRegIn s w n v).pc = s.pc := by unfold setRegIn; split <;> rfl
@[simp] theorem setRegIn_npc (s : State) (w : BitVec 3) (n : Reg) (v : Word) : (setRegIn s w n v).npc = s.npc := by unfold setRegIn; split <;> rfl
@[simp] theorem setRegIn_mode (s : State) (w : BitVec 3) (n : Reg) (v : Word) : (setRegIn s w n v).mode = s.mode := by unfold setRegIn; split <;> rfl
@[simp] theorem setRegIn_psr (s : State) (w : BitVec 3) (n : Reg) (v : Word) : (setRegIn s w n v).psr = s.psr := by unfold setRegIn; split <;> rfl
@[simp] theorem setRegIn_wim (s : State) (w : BitVec 3) (n : Reg) (v : Word) : (setRegIn s w n v).wim = s.wim := by unfold setRegIn; split <;> rfl
@[simp] theorem setRegIn_tbr (s : State) (w : BitVec 3) (n : Reg) (v : Word) : (setRegIn s w n v).tbr = s.tbr := by unfold setRegIn; split <;> rfl
@[simp] theorem setRegIn_y (s : State) (w : BitVec 3) (n : Reg) (v : Word) : (setRegIn s w n v).y = s.y := by unfold setRegIn; split <;> rfl
@[simp] theorem setRegIn_psrWin (s : State) (w : BitVec 3) (n : Reg) (v : Word) : (setRegIn s w n v).psrWin = s.psrWin := by unfold setRegIn; split <;> rfl
@[simp] theorem setRegIn_wimWin (s : State) (w : BitVec 3) (n : Reg) (v : Word) : (setRegIn s w n v).wimWin = s.wimWin := by unfold setRegIn; split <;> rfl
@[simp] theorem setRegIn_tbaWin (s : State) (w : BitVec 3) (n : Reg) (v : Word) : (setRegIn s w n v).tbaWin = s.tbaWin := by unfold setRegIn; split <;> rfl
@[simp] theorem setRegIn_yWin (s : State) (w : BitVec 3) (n : Reg) (v : Word) : (setRegIn s w n v).yWin = s.yWin := by unfold setRegIn; split <;> rfl
@[simp] theorem setRegIn_condDelay (s : State) (w : BitVec 3) (n : Reg) (v : Word) : (setRegIn s w n v).condDelay = s.condDelay := by unfold setRegIn; split <;> rfl
@[simp] theorem setRegIn_codeHist (s : State) (w : BitVec 3) (n : Reg) (v : Word) : (setRegIn s w n v).codeHist = s.codeHist := by unfold setRegIn; split <;> rfl
@[simp] theorem setRegIn_f (s : State) (w : BitVec 3) (n : Reg) (v : Word) : (setRegIn s w n v).f = s.f := by unfold setRegIn; split <;> rfl
@[simp] theorem setRegIn_fsr (s : State) (w : BitVec 3) (n : Reg) (v : Word) : (setRegIn s w n v).fsr = s.fsr := by unfold setRegIn; split <;> rfl
@[simp] theorem setRegIn_fq (s : State) (w : BitVec 3) (n : Reg) (v : Word) : (setRegIn s w n v).fq = s.fq := by unfold setRegIn; split <;> rfl
@[simp] theorem setRegIn_fpMode (s : State) (w : BitVec 3) (n : Reg) (v : Word) : (setRegIn s w n v).fpMode = s.fpMode := by unfold setRegIn; split <;> rfl
@[simp] theorem setRegIn_cp (s : State) (w : BitVec 3) (n : Reg) (v : Word) : (setRegIn s w n v).cp = s.cp := by unfold setRegIn; split <;> rfl
@[simp] theorem setRegIn_cmu (s : State) (w : BitVec 3) (n : Reg) (v : Word) : (setRegIn s w n v).cmu = s.cmu := by unfold setRegIn; split <;> rfl
@[simp] theorem setRegIn_mem (s : State) (w : BitVec 3) (n : Reg) (v : Word) : (setRegIn s w n v).mem = s.mem := by unfold setRegIn; split <;> rfl
@[simp] theorem setRegIn_intack (s : State) (w : BitVec 3) (n : Reg) (v : Word) : (setRegIn s w n v).intack = s.intack := by unfold setRegIn; split <;> rfl
@[simp] theorem setRegIn_snoops (s : State) (w : BitVec 3) (n : Reg) (v : Word) : (setRegIn s w n v).snoops = s.snoops := by unfold setRegIn; split <;> rfl
@[simp] theorem setRegIn_plat (s : State) (w : BitVec 3) (n : Reg) (v : Word) : (setRegIn s w n v).plat = s.plat := by unfold setRegIn; split <;> rfl
@[simp] theorem setRegIn_draws (s : State) (w : BitVec 3) (n : Reg) (v : Word) : (setRegIn s w n v).draws = s.draws := by unfold setRegIn; split <;> rfl

/-! `writeReg` -/

@[simp] theorem writeReg_pc (s : State) (u : Use) (n : Reg) (v : Word) : (writeReg s u n v).pc = s.pc := by unfold writeReg; split <;> simp
@[simp] theorem writeReg_npc (s : State) (u : Use) (n : Reg) (v : Word) : (writeReg s u n v).npc = s.npc := by unfold writeReg; split <;> simp
@[simp] theorem writeReg_mode (s : State) (u : Use) (n : Reg) (v : Word) : (writeReg s u n v).mode = s.mode := by unfold writeReg; split <;> simp
@[simp] theorem writeReg_psr (s : State) (u : Use) (n : Reg) (v : Word) : (writeReg s u n v).psr = s.psr := by unfold writeReg; split <;> simp
@[simp] theorem writeReg_wim (s : State) (u : Use) (n : Reg) (v : Word) : (writeReg s u n v).wim = s.wim := by unfold writeReg; split <;> simp
@[simp] theorem writeReg_tbr (s : State) (u : Use) (n : Reg) (v : Word) : (writeReg s u n v).tbr = s.tbr := by unfold writeReg; split <;> simp
@[simp] theorem writeReg_y (s : State) (u : Use) (n : Reg) (v : Word) : (writeReg s u n v).y = s.y := by unfold writeReg; split <;> simp
@[simp] theorem writeReg_psrWin (s : State) (u : Use) (n : Reg) (v : Word) : (writeReg s u n v).psrWin = s.psrWin := by unfold writeReg; split <;> simp
@[simp] theorem writeReg_wimWin (s : State) (u : Use) (n : Reg) (v : Word) : (writeReg s u n v).wimWin = s.wimWin := by unfold writeReg; split <;> simp
@[simp] theorem writeReg_tbaWin (s : State) (u : Use) (n : Reg) (v : Word) : (writeReg s u n v).tbaWin = s.tbaWin := by unfold writeReg; split <;> simp
@[simp] theorem writeReg_yWin (s : State) (u : Use) (n : Reg) (v : Word) : (writeReg s u n v).yWin = s.yWin := by unfold writeReg; split <;> simp
@[simp] theorem writeReg_condDelay (s : State) (u : Use) (n : Reg) (v : Word) : (writeReg s u n v).condDelay = s.condDelay := by unfold writeReg; split <;> simp
@[simp] theorem writeReg_codeHist (s : State) (u : Use) (n : Reg) (v : Word) : (writeReg s u n v).codeHist = s.codeHist := by unfold writeReg; split <;> simp
@[simp] theorem writeReg_f (s : State) (u : Use) (n : Reg) (v : Word) : (writeReg s u n v).f = s.f := by unfold writeReg; split <;> simp
@[simp] theorem writeReg_fsr (s : State) (u : Use) (n : Reg) (v : Word) : (writeReg s u n v).fsr = s.fsr := by unfold writeReg; split <;> simp
@[simp] theorem writeReg_fq (s : State) (u : Use) (n : Reg) (v : Word) : (writeReg s u n v).fq = s.fq := by unfold writeReg; split <;> simp
@[simp] theorem writeReg_fpMode (s : State) (u : Use) (n : Reg) (v : Word) : (writeReg s u n v).fpMode = s.fpMode := by unfold writeReg; split <;> simp
@[simp] theorem writeReg_cp (s : State) (u : Use) (n : Reg) (v : Word) : (writeReg s u n v).cp = s.cp := by unfold writeReg; split <;> simp
@[simp] theorem writeReg_cmu (s : State) (u : Use) (n : Reg) (v : Word) : (writeReg s u n v).cmu = s.cmu := by unfold writeReg; split <;> simp
@[simp] theorem writeReg_mem (s : State) (u : Use) (n : Reg) (v : Word) : (writeReg s u n v).mem = s.mem := by unfold writeReg; split <;> simp
@[simp] theorem writeReg_intack (s : State) (u : Use) (n : Reg) (v : Word) : (writeReg s u n v).intack = s.intack := by unfold writeReg; split <;> simp
@[simp] theorem writeReg_snoops (s : State) (u : Use) (n : Reg) (v : Word) : (writeReg s u n v).snoops = s.snoops := by unfold writeReg; split <;> simp
@[simp] theorem writeReg_plat (s : State) (u : Use) (n : Reg) (v : Word) : (writeReg s u n v).plat = s.plat := by unfold writeReg; split <;> simp
@[simp] theorem writeReg_draws (s : State) (u : Use) (n : Reg) (v : Word) : (writeReg s u n v).draws = s.draws := by unfold writeReg; split <;> simp

/-! `finish` -/

@[simp] theorem finish_mode (s : State) (rd : Reg) (v : Word) : (finish s rd v).mode = s.mode := by simp [finish]
@[simp] theorem finish_psr (s : State) (rd : Reg) (v : Word) : (finish s rd v).psr = s.psr := by simp [finish]
@[simp] theorem finish_wim (s : State) (rd : Reg) (v : Word) : (finish s rd v).wim = s.wim := by simp [finish]
@[simp] theorem finish_tbr (s : State) (rd : Reg) (v : Word) : (finish s rd v).tbr = s.tbr := by simp [finish]
@[simp] theorem finish_y (s : State) (rd : Reg) (v : Word) : (finish s rd v).y = s.y := by simp [finish]
@[simp] theorem finish_psrWin (s : State) (rd : Reg) (v : Word) : (finish s rd v).psrWin = s.psrWin := by simp [finish]
@[simp] theorem finish_wimWin (s : State) (rd : Reg) (v : Word) : (finish s rd v).wimWin = s.wimWin := by simp [finish]
@[simp] theorem finish_tbaWin (s : State) (rd : Reg) (v : Word) : (finish s rd v).tbaWin = s.tbaWin := by simp [finish]
@[simp] theorem finish_yWin (s : State) (rd : Reg) (v : Word) : (finish s rd v).yWin = s.yWin := by simp [finish]
@[simp] theorem finish_codeHist (s : State) (rd : Reg) (v : Word) : (finish s rd v).codeHist = s.codeHist := by simp [finish]
@[simp] theorem finish_f (s : State) (rd : Reg) (v : Word) : (finish s rd v).f = s.f := by simp [finish]
@[simp] theorem finish_fsr (s : State) (rd : Reg) (v : Word) : (finish s rd v).fsr = s.fsr := by simp [finish]
@[simp] theorem finish_fq (s : State) (rd : Reg) (v : Word) : (finish s rd v).fq = s.fq := by simp [finish]
@[simp] theorem finish_fpMode (s : State) (rd : Reg) (v : Word) : (finish s rd v).fpMode = s.fpMode := by simp [finish]
@[simp] theorem finish_cp (s : State) (rd : Reg) (v : Word) : (finish s rd v).cp = s.cp := by simp [finish]
@[simp] theorem finish_cmu (s : State) (rd : Reg) (v : Word) : (finish s rd v).cmu = s.cmu := by simp [finish]
@[simp] theorem finish_mem (s : State) (rd : Reg) (v : Word) : (finish s rd v).mem = s.mem := by simp [finish]
@[simp] theorem finish_intack (s : State) (rd : Reg) (v : Word) : (finish s rd v).intack = s.intack := by simp [finish]
@[simp] theorem finish_snoops (s : State) (rd : Reg) (v : Word) : (finish s rd v).snoops = s.snoops := by simp [finish]
@[simp] theorem finish_plat (s : State) (rd : Reg) (v : Word) : (finish s rd v).plat = s.plat := by simp [finish]
@[simp] theorem finish_draws (s : State) (rd : Reg) (v : Word) : (finish s rd v).draws = s.draws := by simp [finish]

@[simp] theorem finish_pc (s : State) (rd : Reg) (v : Word) : (finish s rd v).pc = s.npc := by simp [finish]
@[simp] theorem finish_npc (s : State) (rd : Reg) (v : Word) : (finish s rd v).npc = s.npc + 4 := by simp [finish]
@[simp] theorem finish_condDelay (s : State) (rd : Reg) (v : Word) : (finish s rd v).condDelay = false := by simp [finish]
@[simp] theorem finish_regs (s : State) (rd : Reg) (v : Word) : (finish s rd v).regs = (writeReg s .rd rd v).regs := by simp [finish]

/-! `transfer` -/

@[simp] theorem transfer_regs (s : State) (pc npc : Word) : (transfer s pc npc).regs = s.regs := by unfold transfer; split <;> rfl
@[simp] theorem transfer_mode (s : State) (pc npc : Word) : (transfer s pc npc).mode = s.mode := by unfold transfer; split <;> rfl
@[simp] theorem transfer_psr (s : State) (pc npc : Word) : (transfer s pc npc).psr = s.psr := by unfold transfer; split <;> rfl
@[simp] theorem transfer_wim (s : State) (pc npc : Word) : (transfer s pc npc).wim = s.wim := by unfold transfer; split <;> rfl
@[simp] theorem transfer_tbr (s : State) (pc npc : Word) : (transfer s pc npc).tbr = s.tbr := by unfold transfer; split <;> rfl
@[simp] theorem transfer_y (s : State) (pc npc : Word) : (transfer s pc npc).y = s.y := by unfold transfer; split <;> rfl
@[simp] theorem transfer_psrWin (s : State) (pc npc : Word) : (transfer s pc npc).psrWin = s.psrWin := by unfold transfer; split <;> rfl
@[simp] theorem transfer_wimWin (s : State) (pc npc : Word) : (transfer s pc npc).wimWin = s.wimWin := by unfold transfer; split <;> rfl
@[simp] theorem transfer_tbaWin (s : State) (pc npc : Word) : (transfer s pc npc).tbaWin = s.tbaWin := by unfold transfer; split <;> rfl
@[simp] theorem transfer_yWin (s : State) (pc npc : Word) : (transfer s pc npc).yWin = s.yWin := by unfold transfer; split <;> rfl
@[simp] theorem transfer_codeHist (s : State) (pc npc : Word) : (transfer s pc npc).codeHist = s.codeHist := by unfold transfer; split <;> rfl
@[simp] theorem transfer_f (s : State) (pc npc : Word) : (transfer s pc npc).f = s.f := by unfold transfer; split <;> rfl
@[simp] theorem transfer_fsr (s : State) (pc npc : Word) : (transfer s pc npc).fsr = s.fsr := by unfold transfer; split <;> rfl
@[simp] theorem transfer_fq (s : State) (pc npc : Word) : (transfer s pc npc).fq = s.fq := by unfold transfer; split <;> rfl
@[simp] theorem transfer_fpMode (s : State) (pc npc : Word) : (transfer s pc npc).fpMode = s.fpMode := by unfold transfer; split <;> rfl
@[simp] theorem transfer_cp (s : State) (pc npc : Word) : (transfer s pc npc).cp = s.cp := by unfold transfer; split <;> rfl
@[simp] theorem transfer_cmu (s : State) (pc npc : Word) : (transfer s pc npc).cmu = s.cmu := by unfold transfer; split <;> rfl
@[simp] theorem transfer_mem (s : State) (pc npc : Word) : (transfer s pc npc).mem = s.mem := by unfold transfer; split <;> rfl
@[simp] theorem transfer_intack (s : State) (pc npc : Word) : (transfer s pc npc).intack = s.intack := by unfold transfer; split <;> rfl
@[simp] theorem transfer_snoops (s : State) (pc npc : Word) : (transfer s pc npc).snoops = s.snoops := by unfold transfer; split <;> rfl
@[simp] theorem transfer_plat (s : State) (pc npc : Word) : (transfer s pc npc).plat = s.plat := by unfold transfer; split <;> rfl
@[simp] theorem transfer_draws (s : State) (pc npc : Word) : (transfer s pc npc).draws = s.draws := by unfold transfer; split <;> rfl

@[simp] theorem transfer_condDelay (s : State) (pc npc : Word) : (transfer s pc npc).condDelay = false := by unfold transfer; split <;> rfl

/-! `noteStore` -/

@[simp] theorem noteStore_regs (s : State) (p : Nat → CodePlace) (k : Nat) (z : Size) (old : DWord) : (noteStore s p k z old).regs = s.regs := by cases z <;> rfl
@[simp] theorem noteStore_pc (s : State) (p : Nat → CodePlace) (k : Nat) (z : Size) (old : DWord) : (noteStore s p k z old).pc = s.pc := by cases z <;> rfl
@[simp] theorem noteStore_npc (s : State) (p : Nat → CodePlace) (k : Nat) (z : Size) (old : DWord) : (noteStore s p k z old).npc = s.npc := by cases z <;> rfl
@[simp] theorem noteStore_mode (s : State) (p : Nat → CodePlace) (k : Nat) (z : Size) (old : DWord) : (noteStore s p k z old).mode = s.mode := by cases z <;> rfl
@[simp] theorem noteStore_psr (s : State) (p : Nat → CodePlace) (k : Nat) (z : Size) (old : DWord) : (noteStore s p k z old).psr = s.psr := by cases z <;> rfl
@[simp] theorem noteStore_wim (s : State) (p : Nat → CodePlace) (k : Nat) (z : Size) (old : DWord) : (noteStore s p k z old).wim = s.wim := by cases z <;> rfl
@[simp] theorem noteStore_tbr (s : State) (p : Nat → CodePlace) (k : Nat) (z : Size) (old : DWord) : (noteStore s p k z old).tbr = s.tbr := by cases z <;> rfl
@[simp] theorem noteStore_y (s : State) (p : Nat → CodePlace) (k : Nat) (z : Size) (old : DWord) : (noteStore s p k z old).y = s.y := by cases z <;> rfl
@[simp] theorem noteStore_psrWin (s : State) (p : Nat → CodePlace) (k : Nat) (z : Size) (old : DWord) : (noteStore s p k z old).psrWin = s.psrWin := by cases z <;> rfl
@[simp] theorem noteStore_wimWin (s : State) (p : Nat → CodePlace) (k : Nat) (z : Size) (old : DWord) : (noteStore s p k z old).wimWin = s.wimWin := by cases z <;> rfl
@[simp] theorem noteStore_tbaWin (s : State) (p : Nat → CodePlace) (k : Nat) (z : Size) (old : DWord) : (noteStore s p k z old).tbaWin = s.tbaWin := by cases z <;> rfl
@[simp] theorem noteStore_yWin (s : State) (p : Nat → CodePlace) (k : Nat) (z : Size) (old : DWord) : (noteStore s p k z old).yWin = s.yWin := by cases z <;> rfl
@[simp] theorem noteStore_condDelay (s : State) (p : Nat → CodePlace) (k : Nat) (z : Size) (old : DWord) : (noteStore s p k z old).condDelay = s.condDelay := by cases z <;> rfl
@[simp] theorem noteStore_f (s : State) (p : Nat → CodePlace) (k : Nat) (z : Size) (old : DWord) : (noteStore s p k z old).f = s.f := by cases z <;> rfl
@[simp] theorem noteStore_fsr (s : State) (p : Nat → CodePlace) (k : Nat) (z : Size) (old : DWord) : (noteStore s p k z old).fsr = s.fsr := by cases z <;> rfl
@[simp] theorem noteStore_fq (s : State) (p : Nat → CodePlace) (k : Nat) (z : Size) (old : DWord) : (noteStore s p k z old).fq = s.fq := by cases z <;> rfl
@[simp] theorem noteStore_fpMode (s : State) (p : Nat → CodePlace) (k : Nat) (z : Size) (old : DWord) : (noteStore s p k z old).fpMode = s.fpMode := by cases z <;> rfl
@[simp] theorem noteStore_cp (s : State) (p : Nat → CodePlace) (k : Nat) (z : Size) (old : DWord) : (noteStore s p k z old).cp = s.cp := by cases z <;> rfl
@[simp] theorem noteStore_cmu (s : State) (p : Nat → CodePlace) (k : Nat) (z : Size) (old : DWord) : (noteStore s p k z old).cmu = s.cmu := by cases z <;> rfl
@[simp] theorem noteStore_mem (s : State) (p : Nat → CodePlace) (k : Nat) (z : Size) (old : DWord) : (noteStore s p k z old).mem = s.mem := by cases z <;> rfl
@[simp] theorem noteStore_intack (s : State) (p : Nat → CodePlace) (k : Nat) (z : Size) (old : DWord) : (noteStore s p k z old).intack = s.intack := by cases z <;> rfl
@[simp] theorem noteStore_snoops (s : State) (p : Nat → CodePlace) (k : Nat) (z : Size) (old : DWord) : (noteStore s p k z old).snoops = s.snoops := by cases z <;> rfl
@[simp] theorem noteStore_plat (s : State) (p : Nat → CodePlace) (k : Nat) (z : Size) (old : DWord) : (noteStore s p k z old).plat = s.plat := by cases z <;> rfl
@[simp] theorem noteStore_draws (s : State) (p : Nat → CodePlace) (k : Nat) (z : Size) (old : DWord) : (noteStore s p k z old).draws = s.draws := by cases z <;> rfl

/-! `storeAt` -/

@[simp] theorem storeAt_regs (s : State) (k : Nat) (z : Size) (v : DWord) : (storeAt s k z v).regs = s.regs := by simp [storeAt]
@[simp] theorem storeAt_pc (s : State) (k : Nat) (z : Size) (v : DWord) : (storeAt s k z v).pc = s.pc := by simp [storeAt]
@[simp] theorem storeAt_npc (s : State) (k : Nat) (z : Size) (v : DWord) : (storeAt s k z v).npc = s.npc := by simp [storeAt]
@[simp] theorem storeAt_mode (s : State) (k : Nat) (z : Size) (v : DWord) : (storeAt s k z v).mode = s.mode := by simp [storeAt]
@[simp] theorem storeAt_psr (s : State) (k : Nat) (z : Size) (v : DWord) : (storeAt s k z v).psr = s.psr := by simp [storeAt]
@[simp] theorem storeAt_wim (s : State) (k : Nat) (z : Size) (v : DWord) : (storeAt s k z v).wim = s.wim := by simp [storeAt]
@[simp] theorem storeAt_tbr (s : State) (k : Nat) (z : Size) (v : DWord) : (storeAt s k z v).tbr = s.tbr := by simp [storeAt]
@[simp] theorem storeAt_y (s : State) (k : Nat) (z : Size) (v : DWord) : (storeAt s k z v).y = s.y := by simp [storeAt]
@[simp] theorem storeAt_psrWin (s : State) (k : Nat) (z : Size) (v : DWord) : (storeAt s k z v).psrWin = s.psrWin := by simp [storeAt]
@[simp] theorem storeAt_wimWin (s : State) (k : Nat) (z : Size) (v : DWord) : (storeAt s k z v).wimWin = s.wimWin := by simp [storeAt]
@[simp] theorem storeAt_tbaWin (s : State) (k : Nat) (z : Size) (v : DWord) : (storeAt s k z v).tbaWin = s.tbaWin := by simp [storeAt]
@[simp] theorem storeAt_yWin (s : State) (k : Nat) (z : Size) (v : DWord) : (storeAt s k z v).yWin = s.yWin := by simp [storeAt]
@[simp] theorem storeAt_condDelay (s : State) (k : Nat) (z : Size) (v : DWord) : (storeAt s k z v).condDelay = s.condDelay := by simp [storeAt]
@[simp] theorem storeAt_f (s : State) (k : Nat) (z : Size) (v : DWord) : (storeAt s k z v).f = s.f := by simp [storeAt]
@[simp] theorem storeAt_fsr (s : State) (k : Nat) (z : Size) (v : DWord) : (storeAt s k z v).fsr = s.fsr := by simp [storeAt]
@[simp] theorem storeAt_fq (s : State) (k : Nat) (z : Size) (v : DWord) : (storeAt s k z v).fq = s.fq := by simp [storeAt]
@[simp] theorem storeAt_fpMode (s : State) (k : Nat) (z : Size) (v : DWord) : (storeAt s k z v).fpMode = s.fpMode := by simp [storeAt]
@[simp] theorem storeAt_cp (s : State) (k : Nat) (z : Size) (v : DWord) : (storeAt s k z v).cp = s.cp := by simp [storeAt]
@[simp] theorem storeAt_cmu (s : State) (k : Nat) (z : Size) (v : DWord) : (storeAt s k z v).cmu = s.cmu := by simp [storeAt]
@[simp] theorem storeAt_intack (s : State) (k : Nat) (z : Size) (v : DWord) : (storeAt s k z v).intack = s.intack := by simp [storeAt]
@[simp] theorem storeAt_snoops (s : State) (k : Nat) (z : Size) (v : DWord) : (storeAt s k z v).snoops = s.snoops := by simp [storeAt]
@[simp] theorem storeAt_plat (s : State) (k : Nat) (z : Size) (v : DWord) : (storeAt s k z v).plat = s.plat := by simp [storeAt]
@[simp] theorem storeAt_draws (s : State) (k : Nat) (z : Size) (v : DWord) : (storeAt s k z v).draws = s.draws := by simp [storeAt]

@[simp] theorem storeAt_mem (s : State) (k : Nat) (z : Size) (v : DWord) : (storeAt s k z v).mem = setDatum s.mem k z v := by simp [storeAt]

/-! `enterTrap` -/

@[simp] theorem enterTrap_mode (s : State) (t : TrapType) : (enterTrap s t).mode = s.mode := by simp [enterTrap]
@[simp] theorem enterTrap_wim (s : State) (t : TrapType) : (enterTrap s t).wim = s.wim := by simp [enterTrap]
@[simp] theorem enterTrap_y (s : State) (t : TrapType) : (enterTrap s t).y = s.y := by simp [enterTrap]
@[simp] theorem enterTrap_codeHist (s : State) (t : TrapType) : (enterTrap s t).codeHist = s.codeHist := by simp [enterTrap]
@[simp] theorem enterTrap_f (s : State) (t : TrapType) : (enterTrap s t).f = s.f := by simp [enterTrap]
@[simp] theorem enterTrap_fsr (s : State) (t : TrapType) : (enterTrap s t).fsr = s.fsr := by simp [enterTrap]
@[simp] theorem enterTrap_fq (s : State) (t : TrapType) : (enterTrap s t).fq = s.fq := by simp [enterTrap]
@[simp] theorem enterTrap_fpMode (s : State) (t : TrapType) : (enterTrap s t).fpMode = s.fpMode := by simp [enterTrap]
@[simp] theorem enterTrap_cp (s : State) (t : TrapType) : (enterTrap s t).cp = s.cp := by simp [enterTrap]
@[simp] theorem enterTrap_cmu (s : State) (t : TrapType) : (enterTrap s t).cmu = s.cmu := by simp [enterTrap]
@[simp] theorem enterTrap_mem (s : State) (t : TrapType) : (enterTrap s t).mem = s.mem := by simp [enterTrap]
@[simp] theorem enterTrap_intack (s : State) (t : TrapType) : (enterTrap s t).intack = s.intack := by simp [enterTrap]
@[simp] theorem enterTrap_snoops (s : State) (t : TrapType) : (enterTrap s t).snoops = s.snoops := by simp [enterTrap]
@[simp] theorem enterTrap_plat (s : State) (t : TrapType) : (enterTrap s t).plat = s.plat := by simp [enterTrap]
@[simp] theorem enterTrap_draws (s : State) (t : TrapType) : (enterTrap s t).draws = s.draws := by simp [enterTrap]

@[simp] theorem enterTrap_pc (s : State) (t : TrapType) : (enterTrap s t).pc = tbrWord (useTba s .vectorTba) t := rfl
@[simp] theorem enterTrap_npc (s : State) (t : TrapType) : (enterTrap s t).npc = tbrWord (useTba s .vectorTba) t + 4 := rfl
@[simp] theorem enterTrap_psr (s : State) (t : TrapType) : (enterTrap s t).psr = { s.psr with et := false, ps := s.psr.s, s := true, cwp := s.psr.cwp - 1 } := rfl
@[simp] theorem enterTrap_tbr (s : State) (t : TrapType) : (enterTrap s t).tbr = { s.tbr with tt := t } := rfl
@[simp] theorem enterTrap_condDelay (s : State) (t : TrapType) : (enterTrap s t).condDelay = false := rfl
@[simp] theorem enterTrap_psrWin (s : State) (t : TrapType) : (enterTrap s t).psrWin = .none := rfl
@[simp] theorem enterTrap_wimWin (s : State) (t : TrapType) : (enterTrap s t).wimWin = .none := rfl
@[simp] theorem enterTrap_tbaWin (s : State) (t : TrapType) : (enterTrap s t).tbaWin = .none := rfl
@[simp] theorem enterTrap_yWin (s : State) (t : TrapType) : (enterTrap s t).yWin = .none := rfl

/-! `raise` -/

@[simp] theorem raise_wim (s : State) (t : TrapType) : (raise s t).wim = s.wim := by unfold raise enterErrorMode; split <;> simp
@[simp] theorem raise_y (s : State) (t : TrapType) : (raise s t).y = s.y := by unfold raise enterErrorMode; split <;> simp
@[simp] theorem raise_codeHist (s : State) (t : TrapType) : (raise s t).codeHist = s.codeHist := by unfold raise enterErrorMode; split <;> simp
@[simp] theorem raise_f (s : State) (t : TrapType) : (raise s t).f = s.f := by unfold raise enterErrorMode; split <;> simp
@[simp] theorem raise_fsr (s : State) (t : TrapType) : (raise s t).fsr = s.fsr := by unfold raise enterErrorMode; split <;> simp
@[simp] theorem raise_fq (s : State) (t : TrapType) : (raise s t).fq = s.fq := by unfold raise enterErrorMode; split <;> simp
@[simp] theorem raise_fpMode (s : State) (t : TrapType) : (raise s t).fpMode = s.fpMode := by unfold raise enterErrorMode; split <;> simp
@[simp] theorem raise_cp (s : State) (t : TrapType) : (raise s t).cp = s.cp := by unfold raise enterErrorMode; split <;> simp
@[simp] theorem raise_cmu (s : State) (t : TrapType) : (raise s t).cmu = s.cmu := by unfold raise enterErrorMode; split <;> simp
@[simp] theorem raise_mem (s : State) (t : TrapType) : (raise s t).mem = s.mem := by unfold raise enterErrorMode; split <;> simp
@[simp] theorem raise_intack (s : State) (t : TrapType) : (raise s t).intack = s.intack := by unfold raise enterErrorMode; split <;> simp
@[simp] theorem raise_snoops (s : State) (t : TrapType) : (raise s t).snoops = s.snoops := by unfold raise enterErrorMode; split <;> simp
@[simp] theorem raise_plat (s : State) (t : TrapType) : (raise s t).plat = s.plat := by unfold raise enterErrorMode; split <;> simp
@[simp] theorem raise_draws (s : State) (t : TrapType) : (raise s t).draws = s.draws := by unfold raise enterErrorMode; split <;> simp

@[simp] theorem raise_pc (s : State) (t : TrapType) : (raise s t).pc = tbrWord (useTba s .vectorTba) t := by unfold raise enterErrorMode; split <;> simp
@[simp] theorem raise_npc (s : State) (t : TrapType) : (raise s t).npc = tbrWord (useTba s .vectorTba) t + 4 := by unfold raise enterErrorMode; split <;> simp
@[simp] theorem raise_psr (s : State) (t : TrapType) : (raise s t).psr = { s.psr with et := false, ps := s.psr.s, s := true, cwp := s.psr.cwp - 1 } := by unfold raise enterErrorMode; split <;> simp
@[simp] theorem raise_tbr (s : State) (t : TrapType) : (raise s t).tbr = { s.tbr with tt := t } := by unfold raise enterErrorMode; split <;> simp
@[simp] theorem raise_condDelay (s : State) (t : TrapType) : (raise s t).condDelay = false := by unfold raise enterErrorMode; split <;> simp
@[simp] theorem raise_psrWin (s : State) (t : TrapType) : (raise s t).psrWin = .none := by unfold raise enterErrorMode; split <;> simp
@[simp] theorem raise_wimWin (s : State) (t : TrapType) : (raise s t).wimWin = .none := by unfold raise enterErrorMode; split <;> simp
@[simp] theorem raise_tbaWin (s : State) (t : TrapType) : (raise s t).tbaWin = .none := by unfold raise enterErrorMode; split <;> simp
@[simp] theorem raise_yWin (s : State) (t : TrapType) : (raise s t).yWin = .none := by unfold raise enterErrorMode; split <;> simp

/-! `raiseFpException` -/

@[simp] theorem raiseFpException_wim (s : State) : (raiseFpException s).wim = s.wim := by simp [raiseFpException]
@[simp] theorem raiseFpException_y (s : State) : (raiseFpException s).y = s.y := by simp [raiseFpException]
@[simp] theorem raiseFpException_codeHist (s : State) : (raiseFpException s).codeHist = s.codeHist := by simp [raiseFpException]
@[simp] theorem raiseFpException_f (s : State) : (raiseFpException s).f = s.f := by simp [raiseFpException]
@[simp] theorem raiseFpException_fsr (s : State) : (raiseFpException s).fsr = s.fsr := by simp [raiseFpException]
@[simp] theorem raiseFpException_fq (s : State) : (raiseFpException s).fq = s.fq := by simp [raiseFpException]
@[simp] theorem raiseFpException_cp (s : State) : (raiseFpException s).cp = s.cp := by simp [raiseFpException]
@[simp] theorem raiseFpException_cmu (s : State) : (raiseFpException s).cmu = s.cmu := by simp [raiseFpException]
@[simp] theorem raiseFpException_mem (s : State) : (raiseFpException s).mem = s.mem := by simp [raiseFpException]
@[simp] theorem raiseFpException_intack (s : State) : (raiseFpException s).intack = s.intack := by simp [raiseFpException]
@[simp] theorem raiseFpException_snoops (s : State) : (raiseFpException s).snoops = s.snoops := by simp [raiseFpException]
@[simp] theorem raiseFpException_plat (s : State) : (raiseFpException s).plat = s.plat := by simp [raiseFpException]
@[simp] theorem raiseFpException_draws (s : State) : (raiseFpException s).draws = s.draws := by simp [raiseFpException]

@[simp] theorem raiseFpException_fpMode (s : State) : (raiseFpException s).fpMode = .exception := by simp [raiseFpException]

/-! `raiseCpException` -/

@[simp] theorem raiseCpException_wim (s : State) : (raiseCpException s).wim = s.wim := by simp [raiseCpException]
@[simp] theorem raiseCpException_y (s : State) : (raiseCpException s).y = s.y := by simp [raiseCpException]
@[simp] theorem raiseCpException_codeHist (s : State) : (raiseCpException s).codeHist = s.codeHist := by simp [raiseCpException]
@[simp] theorem raiseCpException_f (s : State) : (raiseCpException s).f = s.f := by simp [raiseCpException]
@[simp] theorem raiseCpException_fsr (s : State) : (raiseCpException s).fsr = s.fsr := by simp [raiseCpException]
@[simp] theorem raiseCpException_fq (s : State) : (raiseCpException s).fq = s.fq := by simp [raiseCpException]
@[simp] theorem raiseCpException_fpMode (s : State) : (raiseCpException s).fpMode = s.fpMode := by simp [raiseCpException]
@[simp] theorem raiseCpException_cmu (s : State) : (raiseCpException s).cmu = s.cmu := by simp [raiseCpException]
@[simp] theorem raiseCpException_mem (s : State) : (raiseCpException s).mem = s.mem := by simp [raiseCpException]
@[simp] theorem raiseCpException_intack (s : State) : (raiseCpException s).intack = s.intack := by simp [raiseCpException]
@[simp] theorem raiseCpException_snoops (s : State) : (raiseCpException s).snoops = s.snoops := by simp [raiseCpException]
@[simp] theorem raiseCpException_plat (s : State) : (raiseCpException s).plat = s.plat := by simp [raiseCpException]
@[simp] theorem raiseCpException_draws (s : State) : (raiseCpException s).draws = s.draws := by simp [raiseCpException]

@[simp] theorem raiseCpException_cp (s : State) : (raiseCpException s).cp = { s.cp with mode := .exception } := by simp [raiseCpException]

/-! `moveWindow` -/

@[simp] theorem moveWindow_mode (w : BitVec 3) (rd rs1 : Reg) (o : RegOrImm) (s : State) : (moveWindow w rd rs1 o s).mode = s.mode := by simp [moveWindow]
@[simp] theorem moveWindow_wim (w : BitVec 3) (rd rs1 : Reg) (o : RegOrImm) (s : State) : (moveWindow w rd rs1 o s).wim = s.wim := by simp [moveWindow]
@[simp] theorem moveWindow_tbr (w : BitVec 3) (rd rs1 : Reg) (o : RegOrImm) (s : State) : (moveWindow w rd rs1 o s).tbr = s.tbr := by simp [moveWindow]
@[simp] theorem moveWindow_y (w : BitVec 3) (rd rs1 : Reg) (o : RegOrImm) (s : State) : (moveWindow w rd rs1 o s).y = s.y := by simp [moveWindow]
@[simp] theorem moveWindow_psrWin (w : BitVec 3) (rd rs1 : Reg) (o : RegOrImm) (s : State) : (moveWindow w rd rs1 o s).psrWin = s.psrWin := by simp [moveWindow]
@[simp] theorem moveWindow_wimWin (w : BitVec 3) (rd rs1 : Reg) (o : RegOrImm) (s : State) : (moveWindow w rd rs1 o s).wimWin = s.wimWin := by simp [moveWindow]
@[simp] theorem moveWindow_tbaWin (w : BitVec 3) (rd rs1 : Reg) (o : RegOrImm) (s : State) : (moveWindow w rd rs1 o s).tbaWin = s.tbaWin := by simp [moveWindow]
@[simp] theorem moveWindow_yWin (w : BitVec 3) (rd rs1 : Reg) (o : RegOrImm) (s : State) : (moveWindow w rd rs1 o s).yWin = s.yWin := by simp [moveWindow]
@[simp] theorem moveWindow_codeHist (w : BitVec 3) (rd rs1 : Reg) (o : RegOrImm) (s : State) : (moveWindow w rd rs1 o s).codeHist = s.codeHist := by simp [moveWindow]
@[simp] theorem moveWindow_f (w : BitVec 3) (rd rs1 : Reg) (o : RegOrImm) (s : State) : (moveWindow w rd rs1 o s).f = s.f := by simp [moveWindow]
@[simp] theorem moveWindow_fsr (w : BitVec 3) (rd rs1 : Reg) (o : RegOrImm) (s : State) : (moveWindow w rd rs1 o s).fsr = s.fsr := by simp [moveWindow]
@[simp] theorem moveWindow_fq (w : BitVec 3) (rd rs1 : Reg) (o : RegOrImm) (s : State) : (moveWindow w rd rs1 o s).fq = s.fq := by simp [moveWindow]
@[simp] theorem moveWindow_fpMode (w : BitVec 3) (rd rs1 : Reg) (o : RegOrImm) (s : State) : (moveWindow w rd rs1 o s).fpMode = s.fpMode := by simp [moveWindow]
@[simp] theorem moveWindow_cp (w : BitVec 3) (rd rs1 : Reg) (o : RegOrImm) (s : State) : (moveWindow w rd rs1 o s).cp = s.cp := by simp [moveWindow]
@[simp] theorem moveWindow_cmu (w : BitVec 3) (rd rs1 : Reg) (o : RegOrImm) (s : State) : (moveWindow w rd rs1 o s).cmu = s.cmu := by simp [moveWindow]
@[simp] theorem moveWindow_mem (w : BitVec 3) (rd rs1 : Reg) (o : RegOrImm) (s : State) : (moveWindow w rd rs1 o s).mem = s.mem := by simp [moveWindow]
@[simp] theorem moveWindow_intack (w : BitVec 3) (rd rs1 : Reg) (o : RegOrImm) (s : State) : (moveWindow w rd rs1 o s).intack = s.intack := by simp [moveWindow]
@[simp] theorem moveWindow_snoops (w : BitVec 3) (rd rs1 : Reg) (o : RegOrImm) (s : State) : (moveWindow w rd rs1 o s).snoops = s.snoops := by simp [moveWindow]
@[simp] theorem moveWindow_plat (w : BitVec 3) (rd rs1 : Reg) (o : RegOrImm) (s : State) : (moveWindow w rd rs1 o s).plat = s.plat := by simp [moveWindow]
@[simp] theorem moveWindow_draws (w : BitVec 3) (rd rs1 : Reg) (o : RegOrImm) (s : State) : (moveWindow w rd rs1 o s).draws = s.draws := by simp [moveWindow]

@[simp] theorem moveWindow_psr (w : BitVec 3) (rd rs1 : Reg) (o : RegOrImm) (s : State) : (moveWindow w rd rs1 o s).psr = { s.psr with cwp := w } := by simp [moveWindow]

/-! `branch` -/

@[simp] theorem branch_regs (always taken annul : Bool) (d : Int) (s : State) : (branch always taken annul d s).regs = s.regs := by unfold branch; repeat (first | split | simp)
@[simp] theorem branch_mode (always taken annul : Bool) (d : Int) (s : State) : (branch always taken annul d s).mode = s.mode := by unfold branch; repeat (first | split | simp)
@[simp] theorem branch_psr (always taken annul : Bool) (d : Int) (s : State) : (branch always taken annul d s).psr = s.psr := by unfold branch; repeat (first | split | simp)
@[simp] theorem branch_wim (always taken annul : Bool) (d : Int) (s : State) : (branch always taken annul d s).wim = s.wim := by unfold branch; repeat (first | split | simp)
@[simp] theorem branch_tbr (always taken annul : Bool) (d : Int) (s : State) : (branch always taken annul d s).tbr = s.tbr := by unfold branch; repeat (first | split | simp)
@[simp] theorem branch_y (always taken annul : Bool) (d : Int) (s : State) : (branch always taken annul d s).y = s.y := by unfold branch; repeat (first | split | simp)
@[simp] theorem branch_psrWin (always taken annul : Bool) (d : Int) (s : State) : (branch always taken annul d s).psrWin = s.psrWin := by unfold branch; repeat (first | split | simp)
@[simp] theorem branch_wimWin (always taken annul : Bool) (d : Int) (s : State) : (branch always taken annul d s).wimWin = s.wimWin := by unfold branch; repeat (first | split | simp)
@[simp] theorem branch_tbaWin (always taken annul : Bool) (d : Int) (s : State) : (branch always taken annul d s).tbaWin = s.tbaWin := by unfold branch; repeat (first | split | simp)
@[simp] theorem branch_yWin (always taken annul : Bool) (d : Int) (s : State) : (branch always taken annul d s).yWin = s.yWin := by unfold branch; repeat (first | split | simp)
@[simp] theorem branch_codeHist (always taken annul : Bool) (d : Int) (s : State) : (branch always taken annul d s).codeHist = s.codeHist := by unfold branch; repeat (first | split | simp)
@[simp] theorem branch_f (always taken annul : Bool) (d : Int) (s : State) : (branch always taken annul d s).f = s.f := by unfold branch; repeat (first | split | simp)
@[simp] theorem branch_fsr (always taken annul : Bool) (d : Int) (s : State) : (branch always taken annul d s).fsr = s.fsr := by unfold branch; repeat (first | split | simp)
@[simp] theorem branch_fq (always taken annul : Bool) (d : Int) (s : State) : (branch always taken annul d s).fq = s.fq := by unfold branch; repeat (first | split | simp)
@[simp] theorem branch_fpMode (always taken annul : Bool) (d : Int) (s : State) : (branch always taken annul d s).fpMode = s.fpMode := by unfold branch; repeat (first | split | simp)
@[simp] theorem branch_cp (always taken annul : Bool) (d : Int) (s : State) : (branch always taken annul d s).cp = s.cp := by unfold branch; repeat (first | split | simp)
@[simp] theorem branch_cmu (always taken annul : Bool) (d : Int) (s : State) : (branch always taken annul d s).cmu = s.cmu := by unfold branch; repeat (first | split | simp)
@[simp] theorem branch_mem (always taken annul : Bool) (d : Int) (s : State) : (branch always taken annul d s).mem = s.mem := by unfold branch; repeat (first | split | simp)
@[simp] theorem branch_intack (always taken annul : Bool) (d : Int) (s : State) : (branch always taken annul d s).intack = s.intack := by unfold branch; repeat (first | split | simp)
@[simp] theorem branch_snoops (always taken annul : Bool) (d : Int) (s : State) : (branch always taken annul d s).snoops = s.snoops := by unfold branch; repeat (first | split | simp)
@[simp] theorem branch_plat (always taken annul : Bool) (d : Int) (s : State) : (branch always taken annul d s).plat = s.plat := by unfold branch; repeat (first | split | simp)
@[simp] theorem branch_draws (always taken annul : Bool) (d : Int) (s : State) : (branch always taken annul d s).draws = s.draws := by unfold branch; repeat (first | split | simp)

/-! `returnFromTrap` -/

@[simp] theorem returnFromTrap_regs (s : State) (w : BitVec 3) (a : Word) : (returnFromTrap s w a).regs = s.regs := by simp [returnFromTrap]
@[simp] theorem returnFromTrap_mode (s : State) (w : BitVec 3) (a : Word) : (returnFromTrap s w a).mode = s.mode := by simp [returnFromTrap]
@[simp] theorem returnFromTrap_wim (s : State) (w : BitVec 3) (a : Word) : (returnFromTrap s w a).wim = s.wim := by simp [returnFromTrap]
@[simp] theorem returnFromTrap_tbr (s : State) (w : BitVec 3) (a : Word) : (returnFromTrap s w a).tbr = s.tbr := by simp [returnFromTrap]
@[simp] theorem returnFromTrap_y (s : State) (w : BitVec 3) (a : Word) : (returnFromTrap s w a).y = s.y := by simp [returnFromTrap]
@[simp] theorem returnFromTrap_psrWin (s : State) (w : BitVec 3) (a : Word) : (returnFromTrap s w a).psrWin = s.psrWin := by simp [returnFromTrap]
@[simp] theorem returnFromTrap_wimWin (s : State) (w : BitVec 3) (a : Word) : (returnFromTrap s w a).wimWin = s.wimWin := by simp [returnFromTrap]
@[simp] theorem returnFromTrap_tbaWin (s : State) (w : BitVec 3) (a : Word) : (returnFromTrap s w a).tbaWin = s.tbaWin := by simp [returnFromTrap]
@[simp] theorem returnFromTrap_yWin (s : State) (w : BitVec 3) (a : Word) : (returnFromTrap s w a).yWin = s.yWin := by simp [returnFromTrap]
@[simp] theorem returnFromTrap_codeHist (s : State) (w : BitVec 3) (a : Word) : (returnFromTrap s w a).codeHist = s.codeHist := by simp [returnFromTrap]
@[simp] theorem returnFromTrap_f (s : State) (w : BitVec 3) (a : Word) : (returnFromTrap s w a).f = s.f := by simp [returnFromTrap]
@[simp] theorem returnFromTrap_fsr (s : State) (w : BitVec 3) (a : Word) : (returnFromTrap s w a).fsr = s.fsr := by simp [returnFromTrap]
@[simp] theorem returnFromTrap_fq (s : State) (w : BitVec 3) (a : Word) : (returnFromTrap s w a).fq = s.fq := by simp [returnFromTrap]
@[simp] theorem returnFromTrap_fpMode (s : State) (w : BitVec 3) (a : Word) : (returnFromTrap s w a).fpMode = s.fpMode := by simp [returnFromTrap]
@[simp] theorem returnFromTrap_cp (s : State) (w : BitVec 3) (a : Word) : (returnFromTrap s w a).cp = s.cp := by simp [returnFromTrap]
@[simp] theorem returnFromTrap_cmu (s : State) (w : BitVec 3) (a : Word) : (returnFromTrap s w a).cmu = s.cmu := by simp [returnFromTrap]
@[simp] theorem returnFromTrap_mem (s : State) (w : BitVec 3) (a : Word) : (returnFromTrap s w a).mem = s.mem := by simp [returnFromTrap]
@[simp] theorem returnFromTrap_intack (s : State) (w : BitVec 3) (a : Word) : (returnFromTrap s w a).intack = s.intack := by simp [returnFromTrap]
@[simp] theorem returnFromTrap_snoops (s : State) (w : BitVec 3) (a : Word) : (returnFromTrap s w a).snoops = s.snoops := by simp [returnFromTrap]
@[simp] theorem returnFromTrap_plat (s : State) (w : BitVec 3) (a : Word) : (returnFromTrap s w a).plat = s.plat := by simp [returnFromTrap]
@[simp] theorem returnFromTrap_draws (s : State) (w : BitVec 3) (a : Word) : (returnFromTrap s w a).draws = s.draws := by simp [returnFromTrap]

/-! `refresh` -/

@[simp] theorem refresh_regs (s : State) : (refresh s).regs = s.regs := rfl
@[simp] theorem refresh_pc (s : State) : (refresh s).pc = s.pc := rfl
@[simp] theorem refresh_npc (s : State) : (refresh s).npc = s.npc := rfl
@[simp] theorem refresh_mode (s : State) : (refresh s).mode = s.mode := rfl
@[simp] theorem refresh_psr (s : State) : (refresh s).psr = s.psr := rfl
@[simp] theorem refresh_wim (s : State) : (refresh s).wim = s.wim := rfl
@[simp] theorem refresh_tbr (s : State) : (refresh s).tbr = s.tbr := rfl
@[simp] theorem refresh_y (s : State) : (refresh s).y = s.y := rfl
@[simp] theorem refresh_psrWin (s : State) : (refresh s).psrWin = s.psrWin := rfl
@[simp] theorem refresh_wimWin (s : State) : (refresh s).wimWin = s.wimWin := rfl
@[simp] theorem refresh_tbaWin (s : State) : (refresh s).tbaWin = s.tbaWin := rfl
@[simp] theorem refresh_yWin (s : State) : (refresh s).yWin = s.yWin := rfl
@[simp] theorem refresh_condDelay (s : State) : (refresh s).condDelay = s.condDelay := rfl
@[simp] theorem refresh_codeHist (s : State) : (refresh s).codeHist = s.codeHist := rfl
@[simp] theorem refresh_f (s : State) : (refresh s).f = s.f := rfl
@[simp] theorem refresh_fsr (s : State) : (refresh s).fsr = s.fsr := rfl
@[simp] theorem refresh_fq (s : State) : (refresh s).fq = s.fq := rfl
@[simp] theorem refresh_fpMode (s : State) : (refresh s).fpMode = s.fpMode := rfl
@[simp] theorem refresh_cp (s : State) : (refresh s).cp = s.cp := rfl
@[simp] theorem refresh_cmu (s : State) : (refresh s).cmu = s.cmu := rfl
@[simp] theorem refresh_mem (s : State) : (refresh s).mem = s.mem := rfl
@[simp] theorem refresh_intack (s : State) : (refresh s).intack = s.intack := rfl
@[simp] theorem refresh_snoops (s : State) : (refresh s).snoops = s.snoops := rfl
@[simp] theorem refresh_plat (s : State) : (refresh s).plat = s.plat := rfl

@[simp] theorem refresh_draws (s : State) : (refresh s).draws = s.draws + 1 := rfl

/-! `endTurn` -/

@[simp] theorem endTurn_regs (s : State) : (endTurn s).regs = s.regs := rfl
@[simp] theorem endTurn_pc (s : State) : (endTurn s).pc = s.pc := rfl
@[simp] theorem endTurn_npc (s : State) : (endTurn s).npc = s.npc := rfl
@[simp] theorem endTurn_mode (s : State) : (endTurn s).mode = s.mode := rfl
@[simp] theorem endTurn_psr (s : State) : (endTurn s).psr = s.psr := rfl
@[simp] theorem endTurn_wim (s : State) : (endTurn s).wim = s.wim := rfl
@[simp] theorem endTurn_tbr (s : State) : (endTurn s).tbr = s.tbr := rfl
@[simp] theorem endTurn_y (s : State) : (endTurn s).y = s.y := rfl
@[simp] theorem endTurn_psrWin (s : State) : (endTurn s).psrWin = s.psrWin := rfl
@[simp] theorem endTurn_wimWin (s : State) : (endTurn s).wimWin = s.wimWin := rfl
@[simp] theorem endTurn_tbaWin (s : State) : (endTurn s).tbaWin = s.tbaWin := rfl
@[simp] theorem endTurn_yWin (s : State) : (endTurn s).yWin = s.yWin := rfl
@[simp] theorem endTurn_condDelay (s : State) : (endTurn s).condDelay = s.condDelay := rfl
@[simp] theorem endTurn_codeHist (s : State) : (endTurn s).codeHist = s.codeHist := rfl
@[simp] theorem endTurn_f (s : State) : (endTurn s).f = s.f := rfl
@[simp] theorem endTurn_fsr (s : State) : (endTurn s).fsr = s.fsr := rfl
@[simp] theorem endTurn_fq (s : State) : (endTurn s).fq = s.fq := rfl
@[simp] theorem endTurn_fpMode (s : State) : (endTurn s).fpMode = s.fpMode := rfl
@[simp] theorem endTurn_cp (s : State) : (endTurn s).cp = s.cp := rfl
@[simp] theorem endTurn_cmu (s : State) : (endTurn s).cmu = s.cmu := rfl
@[simp] theorem endTurn_mem (s : State) : (endTurn s).mem = s.mem := rfl
@[simp] theorem endTurn_snoops (s : State) : (endTurn s).snoops = s.snoops := rfl
@[simp] theorem endTurn_plat (s : State) : (endTurn s).plat = s.plat := rfl

@[simp] theorem endTurn_draws (s : State) : (endTurn s).draws = s.draws + 1 := rfl
@[simp] theorem endTurn_intack (s : State) : (endTurn s).intack = false := rfl

/-! `endStep` -/

@[simp] theorem endStep_regs (s : State) : (endStep s).regs = s.regs := rfl
@[simp] theorem endStep_pc (s : State) : (endStep s).pc = s.pc := rfl
@[simp] theorem endStep_npc (s : State) : (endStep s).npc = s.npc := rfl
@[simp] theorem endStep_mode (s : State) : (endStep s).mode = s.mode := rfl
@[simp] theorem endStep_psr (s : State) : (endStep s).psr = s.psr := rfl
@[simp] theorem endStep_wim (s : State) : (endStep s).wim = s.wim := rfl
@[simp] theorem endStep_tbr (s : State) : (endStep s).tbr = s.tbr := rfl
@[simp] theorem endStep_y (s : State) : (endStep s).y = s.y := rfl
@[simp] theorem endStep_condDelay (s : State) : (endStep s).condDelay = s.condDelay := rfl
@[simp] theorem endStep_f (s : State) : (endStep s).f = s.f := rfl
@[simp] theorem endStep_fsr (s : State) : (endStep s).fsr = s.fsr := rfl
@[simp] theorem endStep_fq (s : State) : (endStep s).fq = s.fq := rfl
@[simp] theorem endStep_fpMode (s : State) : (endStep s).fpMode = s.fpMode := rfl
@[simp] theorem endStep_cp (s : State) : (endStep s).cp = s.cp := rfl
@[simp] theorem endStep_cmu (s : State) : (endStep s).cmu = s.cmu := rfl
@[simp] theorem endStep_mem (s : State) : (endStep s).mem = s.mem := rfl
@[simp] theorem endStep_snoops (s : State) : (endStep s).snoops = s.snoops := rfl
@[simp] theorem endStep_plat (s : State) : (endStep s).plat = s.plat := rfl

@[simp] theorem endStep_intack (s : State) : (endStep s).intack = false := rfl
@[simp] theorem endStep_psrWin (s : State) : (endStep s).psrWin = s.psrWin.tick := rfl
@[simp] theorem endStep_wimWin (s : State) : (endStep s).wimWin = s.wimWin.tick := rfl
@[simp] theorem endStep_tbaWin (s : State) : (endStep s).tbaWin = s.tbaWin.tick := rfl
@[simp] theorem endStep_yWin (s : State) : (endStep s).yWin = s.yWin.tick := rfl
@[simp] theorem endStep_draws (s : State) : (endStep s).draws = s.draws + 1 := rfl

/-! `resetIu` -/

@[simp] theorem resetIu_regs (s : State) : (resetIu s).regs = s.regs := rfl
@[simp] theorem resetIu_wim (s : State) : (resetIu s).wim = s.wim := rfl
@[simp] theorem resetIu_tbr (s : State) : (resetIu s).tbr = s.tbr := rfl
@[simp] theorem resetIu_y (s : State) : (resetIu s).y = s.y := rfl
@[simp] theorem resetIu_f (s : State) : (resetIu s).f = s.f := rfl
@[simp] theorem resetIu_cp (s : State) : (resetIu s).cp = s.cp := rfl
@[simp] theorem resetIu_cmu (s : State) : (resetIu s).cmu = s.cmu := rfl
@[simp] theorem resetIu_mem (s : State) : (resetIu s).mem = s.mem := rfl
@[simp] theorem resetIu_intack (s : State) : (resetIu s).intack = s.intack := rfl
@[simp] theorem resetIu_snoops (s : State) : (resetIu s).snoops = s.snoops := rfl
@[simp] theorem resetIu_plat (s : State) : (resetIu s).plat = s.plat := rfl
@[simp] theorem resetIu_draws (s : State) : (resetIu s).draws = s.draws := rfl


/-! The fields of the PSR under new condition codes -/

@[simp] theorem withIcc_icc (p : Psr) (i : Icc) : (p.withIcc i).icc = i := rfl
@[simp] theorem withIcc_ec (p : Psr) (i : Icc) : (p.withIcc i).ec = p.ec := rfl
@[simp] theorem withIcc_ef (p : Psr) (i : Icc) : (p.withIcc i).ef = p.ef := rfl
@[simp] theorem withIcc_pil (p : Psr) (i : Icc) : (p.withIcc i).pil = p.pil := rfl
@[simp] theorem withIcc_s (p : Psr) (i : Icc) : (p.withIcc i).s = p.s := rfl
@[simp] theorem withIcc_ps (p : Psr) (i : Icc) : (p.withIcc i).ps = p.ps := rfl
@[simp] theorem withIcc_et (p : Psr) (i : Icc) : (p.withIcc i).et = p.et := rfl
@[simp] theorem withIcc_cwp (p : Psr) (i : Icc) : (p.withIcc i).cwp = p.cwp := rfl

/-! `withCp` -/

@[simp] theorem withCp_regs (s : State) (c : CpState) : (withCp s c).regs = s.regs := rfl
@[simp] theorem withCp_pc (s : State) (c : CpState) : (withCp s c).pc = s.pc := rfl
@[simp] theorem withCp_npc (s : State) (c : CpState) : (withCp s c).npc = s.npc := rfl
@[simp] theorem withCp_mode (s : State) (c : CpState) : (withCp s c).mode = s.mode := rfl
@[simp] theorem withCp_psr (s : State) (c : CpState) : (withCp s c).psr = s.psr := rfl
@[simp] theorem withCp_wim (s : State) (c : CpState) : (withCp s c).wim = s.wim := rfl
@[simp] theorem withCp_tbr (s : State) (c : CpState) : (withCp s c).tbr = s.tbr := rfl
@[simp] theorem withCp_y (s : State) (c : CpState) : (withCp s c).y = s.y := rfl
@[simp] theorem withCp_psrWin (s : State) (c : CpState) : (withCp s c).psrWin = s.psrWin := rfl
@[simp] theorem withCp_wimWin (s : State) (c : CpState) : (withCp s c).wimWin = s.wimWin := rfl
@[simp] theorem withCp_tbaWin (s : State) (c : CpState) : (withCp s c).tbaWin = s.tbaWin := rfl
@[simp] theorem withCp_yWin (s : State) (c : CpState) : (withCp s c).yWin = s.yWin := rfl
@[simp] theorem withCp_condDelay (s : State) (c : CpState) : (withCp s c).condDelay = s.condDelay := rfl
@[simp] theorem withCp_codeHist (s : State) (c : CpState) : (withCp s c).codeHist = s.codeHist := rfl
@[simp] theorem withCp_f (s : State) (c : CpState) : (withCp s c).f = s.f := rfl
@[simp] theorem withCp_fsr (s : State) (c : CpState) : (withCp s c).fsr = s.fsr := rfl
@[simp] theorem withCp_fq (s : State) (c : CpState) : (withCp s c).fq = s.fq := rfl
@[simp] theorem withCp_fpMode (s : State) (c : CpState) : (withCp s c).fpMode = s.fpMode := rfl
@[simp] theorem withCp_cmu (s : State) (c : CpState) : (withCp s c).cmu = s.cmu := rfl
@[simp] theorem withCp_mem (s : State) (c : CpState) : (withCp s c).mem = s.mem := rfl
@[simp] theorem withCp_intack (s : State) (c : CpState) : (withCp s c).intack = s.intack := rfl
@[simp] theorem withCp_snoops (s : State) (c : CpState) : (withCp s c).snoops = s.snoops := rfl
@[simp] theorem withCp_plat (s : State) (c : CpState) : (withCp s c).plat = s.plat := rfl
@[simp] theorem withCp_draws (s : State) (c : CpState) : (withCp s c).draws = s.draws := rfl
@[simp] theorem withCp_cp (s : State) (c : CpState) : (withCp s c).cp = c := rfl
@[simp] theorem withCp_self (s : State) : withCp s s.cp = s := rfl

end Sys2Proof.Machine
end

