-- ==== Sys2Proof/Laws/Ops.lean ====
section
/-! SUPPORT. One lemma per shared operation of the integer unit that says what it can do. -/
namespace Sys2Proof.Machine

/-! ## Uses of delayed-write registers (70_reset_and_hazards.md R511) -/

/-- With no delayed write pending a use gives the register's own value. -/
theorem use_of_none {α β : Type} [DecidableEq β] {w : Delayed α} (h : w.writes = []) (cur : α) (field : α → β) (n : Nat) :
    w.use cur field n = field cur := by simp [Delayed.use, h]

/-- A field that no write of the window changed gives the register's own value (43_state_register_misc.md R269). -/
theorem use_of_unchanged {α β : Type} [DecidableEq β] {w : Delayed α} {field : α → β}
    (h : ∀ p ∈ w.writes, field p.1 = field p.2) (cur : α) (n : Nat) : w.use cur field n = field cur := by
  rw [Delayed.use, if_pos]; simpa using h

/-- A use gives the field of the register's own value or of one it had before or after a write of the window. -/
theorem use_mem {α β : Type} [DecidableEq β] (w : Delayed α) (cur : α) (field : α → β) (n : Nat) :
    ∃ c ∈ cur :: w.values, w.use cur field n = field c := by
  unfold Delayed.use
  split
  · exact ⟨cur, List.mem_cons_self .., rfl⟩
  · have hlt : n % (w.values.length + 1) < (cur :: w.values).length := by
      simpa using Nat.mod_lt n (Nat.succ_pos w.values.length)
    exact ⟨_, by rw [List.getD_eq_getElem _ _ hlt]; exact List.getElem_mem hlt, rfl⟩

theorem usePsr_of_none {β : Type} [DecidableEq β] {s : State} (h : s.psrWin.writes = []) (field : Psr → β) (u : Use) :
    usePsr s field u = field s.psr := use_of_none h _ _ _

theorem useWim_of_none {s : State} (h : s.wimWin.writes = []) (u : Use) : useWim s u = s.wim := use_of_none h _ _ _

theorem useTba_of_none {s : State} (h : s.tbaWin.writes = []) (u : Use) : useTba s u = s.tbr.tba := use_of_none h _ _ _

theorem useY_of_none {s : State} (h : s.yWin.writes = []) (u : Use) : useY s u = s.y := use_of_none h _ _ _

theorem useCwp_of_none {s : State} (h : s.psrWin.writes = []) (u : Use) : useCwp s u = s.psr.cwp := usePsr_of_none h _ _

theorem supervisor_of_none {s : State} (h : s.psrWin.writes = []) : supervisor s = s.psr.s := usePsr_of_none h _ _

theorem fpEnabled_of_none {s : State} (h : s.psrWin.writes = []) : fpEnabled s = (s.psr.ef && s.plat.fpuPresent) := by
  rw [fpEnabled, usePsr_of_none h]

theorem cpEnabled_of_none {s : State} (h : s.psrWin.writes = []) :
    cpEnabled s = (s.psr.ec && s.plat.cpPresent && decide (s.plat.iu = .cy7c601)) := by
  rw [cpEnabled, usePsr_of_none h]

theorem readPsr_of_none {s : State} (h : s.psrWin.writes = []) : readPsr s = s.psr := by
  simp [readPsr, use_of_none h]

@[simp] theorem tick_none {α : Type} : (Delayed.none : Delayed α).tick = .none := rfl

/-! ## The r registers -/

/-- A global register is the same register in every window. -/
theorem regIndex_global (w x : BitVec 3) {n : Reg} (h : n.toNat < 8) : regIndex w n = regIndex x n := by
  simp [regIndex, h]

theorem regIn_global (s : State) (w x : BitVec 3) {n : Reg} (h : n.toNat < 8) : regIn s w n = regIn s x n := by
  simp [regIn, regIndex, h]

theorem setRegIn_global (s : State) (w x : BitVec 3) {n : Reg} (h : n.toNat < 8) (v : Word) :
    setRegIn s w n v = setRegIn s x n v := by
  simp [setRegIn, regIndex, h]

/-- `r[0]` discards what is written to it. -/
@[simp] theorem setRegIn_zero (s : State) (w : BitVec 3) (v : Word) : setRegIn s w 0 v = s := by simp [setRegIn]

/-- `r[0]` reads 0. -/
@[simp] theorem regIn_zero (s : State) (w : BitVec 3) : regIn s w 0 = 0 := by simp [regIn]

/-- A write inside the bounds of a vector. -/
theorem vector_set_eq {α : Type} {n : Nat} (v : Vector α n) (i : Nat) (h : i < n) (x : α) :
    v.set i x h = v.setIfInBounds i x := by
  apply Vector.ext; intro j hj; simp [Vector.getElem_set, Vector.getElem_setIfInBounds]

/-- A register write, as an update of the register file alone. -/
theorem setRegIn_eq (s : State) (w : BitVec 3) (n : Reg) (v : Word) :
    setRegIn s w n v = { s with regs := if n = 0 then s.regs else s.regs.setIfInBounds (regIndex w n) v } := by
  unfold setRegIn
  split
  · rfl
  · rw [vector_set_eq]

/-- A register reads the same in states with the same register file. -/
theorem regIn_congr {s t : State} (h : t.regs = s.regs) (w : BitVec 3) (n : Reg) : regIn t w n = regIn s w n := by
  simp [regIn, h]

theorem readReg_of_none {s : State} (h : s.psrWin.writes = []) (u : Use) (n : Reg) :
    readReg s u n = regIn s s.psr.cwp n := by
  unfold readReg
  split
  · rename_i hn; exact regIn_global s 0 _ hn
  · rw [useCwp_of_none h]

theorem writeReg_of_none {s : State} (h : s.psrWin.writes = []) (u : Use) (n : Reg) (v : Word) :
    writeReg s u n v = setRegIn s s.psr.cwp n v := by
  unfold writeReg
  split
  · rename_i hn; exact setRegIn_global s 0 _ hn v
  · rw [useCwp_of_none h]

theorem operand2_of_none {s : State} (h : s.psrWin.writes = []) (o : RegOrImm) :
    operand2 s o = match o with
      | .reg n => regIn s s.psr.cwp n
      | .imm v => BitVec.ofInt 32 v := by
  cases o <;> simp [operand2, readReg_of_none h, simm13Word]

/-! ## Traps -/

/-- A trap does one of two things: the entry where ET = 1, error mode where ET = 0. -/
theorem raise_of_none {s : State} (h : s.psrWin.writes = []) (t : TrapType) :
    raise s t = if s.psr.et then enterTrap s t else enterErrorMode s t := by
  rw [raise, usePsr_of_none h]

/-- The register file after a trap entry. -/
theorem enterTrap_regs (s : State) (t : TrapType) :
    (enterTrap s t).regs = (s.regs.setIfInBounds (regIndex (s.psr.cwp - 1) 17) s.pc).setIfInBounds
      (regIndex (s.psr.cwp - 1) 18) s.npc := by
  simp [enterTrap, setRegIn_eq]

/-- A trap in one record update: everything it does. -/
theorem enterTrap_eq (s : State) (t : TrapType) :
    enterTrap s t = { s with
      regs := (s.regs.setIfInBounds (regIndex (s.psr.cwp - 1) 17) s.pc).setIfInBounds (regIndex (s.psr.cwp - 1) 18) s.npc
      psr := { s.psr with et := false, ps := s.psr.s, s := true, cwp := s.psr.cwp - 1 }
      tbr := { s.tbr with tt := t }
      pc := tbrWord (useTba s .vectorTba) t
      npc := tbrWord (useTba s .vectorTba) t + 4
      psrWin := .none
      wimWin := .none
      tbaWin := .none
      yWin := .none
      condDelay := false } := by
  simp [enterTrap, setRegIn_eq]

/-- The mode after a trap: unchanged, or error mode where ET was (or could be) 0. -/
theorem raise_mode (s : State) (t : TrapType) : (raise s t).mode = s.mode ∨ (raise s t).mode = .error := by
  unfold raise enterErrorMode; split <;> simp

end Sys2Proof.Machine
end

