-- ==== Sys2Proof/Laws/Access.lean ====
section
/-! SUPPORT. What an access can do: without a CMU its exact answer, through one the parts of the state it may change and the
forms it keeps. -/
namespace Sys2Proof.Machine

/-! ## Alignment -/

theorem misaligned_half (a : Word) : misaligned a .half = decide (a.toNat % 2 ≠ 0) := by
  simp only [misaligned]
  rw [decide_eq_decide, not_iff_not, ← BitVec.toNat_inj]; simp [BitVec.extractLsb'_toNat]

theorem misaligned_word (a : Word) : misaligned a .word = decide (a.toNat % 4 ≠ 0) := by
  simp only [misaligned]
  rw [decide_eq_decide, not_iff_not, ← BitVec.toNat_inj]; simp [BitVec.extractLsb'_toNat]

theorem misaligned_double (a : Word) : misaligned a .double = decide (a.toNat % 8 ≠ 0) := by
  simp only [misaligned]
  rw [decide_eq_decide, not_iff_not, ← BitVec.toNat_inj]; simp [BitVec.extractLsb'_toNat]

/-- An access is misaligned exactly where its address is not a multiple of its size (20_memory.md R67). -/
theorem misaligned_eq (a : Word) (size : Size) : misaligned a size = decide (a.toNat % size.bytes ≠ 0) := by
  cases size
  · simp [misaligned, Size.bytes, Nat.mod_one]
  · exact misaligned_half a
  · exact misaligned_word a
  · exact misaligned_double a

/-! ## Without a CMU -/

theorem memException_of_nil {s : State} (h : s.plat.memFault = []) (r w f : Bool) (asi : Asi) (va : Word) (size : Size) :
    memException s r w f asi va size = false := by
  simp [memException, h]

theorem bareBank_dataAsi (s : State) : bareBank s (dataAsi s) = some 0 := by
  unfold bareBank dataAsi pinAsi
  generalize usePsr s Psr.s .asi = b
  generalize s.plat.iu = k
  cases b <;> cases k <;> rfl

theorem bareBank_instrAsi (s : State) : bareBank s (instrAsi s) = some 0 := by
  unfold bareBank instrAsi pinAsi
  generalize usePsr s Psr.s .fetch = b
  generalize s.plat.iu = k
  cases b <;> cases k <;> rfl

/-- The second word of an aligned doubleword is four bytes on. -/
theorem pinAddress_add_four (s : State) {va : Word} (h : misaligned va .double = false) :
    pinAddress s (va + 4) = pinAddress s va + 4 := by
  have h8 : va.toNat % 8 = 0 := by rw [misaligned_double] at h; simpa using h
  have hv := va.isLt
  have h4 : (4 : Word).toNat = 4 := rfl
  unfold pinAddress
  split <;> simp only [BitVec.extractLsb'_toNat, BitVec.toNat_add, h4, Nat.shiftRight_zero] <;> omega

/-- Without a CMU a data read is one transfer, or two for a doubleword, and changes nothing. -/
theorem readMem_bare_eq {s : State} (hc : hasCmu s = false) (asi : Asi) (va : Word) (size : Size) :
    readMem s asi va size = (s, match size with
      | .double =>
        match bareRead s false asi va .word, bareRead s false asi (va + 4) .word with
        | some hi, some lo => some (hi.value.setWidth 32 ++ lo.value.setWidth 32)
        | _, _ => none
      | z => (bareRead s false asi va z).map Loaded.value) := by
  cases size <;> simp only [readMem, readOne, readPair, wordSpace, hc, Bool.false_and, Bool.false_eq_true, if_false]
  cases h : bareRead s false asi va .word <;> cases h' : bareRead s false asi (va + 4) .word <;>
    simp only [Option.map_some, Option.map_none, hc, h', Bool.false_eq_true, if_false]

theorem setWidth_datumAt_word (m : List Host.Cell) (k : Nat) :
    (datumAt m k .word).setWidth 32 = byteAt m k ++ byteAt m (k + 1) ++ byteAt m (k + 2) ++ byteAt m (k + 3) := by
  apply BitVec.eq_of_getLsbD_eq; intro i hi; simp [datumAt, hi]

theorem datumAt_double (m : List Host.Cell) (k : Nat) :
    datumAt m k .double = (byteAt m k ++ byteAt m (k + 1) ++ byteAt m (k + 2) ++ byteAt m (k + 3) : Word) ++
      (byteAt m (k + 4) ++ byteAt m (k + 5) ++ byteAt m (k + 6) ++ byteAt m (k + 7) : Word) := by
  unfold datumAt
  apply BitVec.eq_of_getLsbD_eq; intro i hi
  simp only [BitVec.getLsbD_append]
  interval_cases i <;> simp

/-- A read that a bank answers. -/
theorem readMem_bare {s : State} (hc : hasCmu s = false) (hm : s.plat.memFault = []) {asi : Asi} {b : Nat}
    (hb : bareBank s asi = some b) {va : Word} {size : Size} (ha : misaligned va size = false) :
    readMem s asi va size = (s, some (datumAt s.mem (memKey b (pinAddress s va)) size)) := by
  rw [readMem_bare_eq hc]
  cases size <;> simp only [bareRead, memException_of_nil hm, hb, Bool.false_eq_true, if_false, Option.map_some]
  rw [pinAddress_add_four s ha, setWidth_datumAt_word, setWidth_datumAt_word, datumAt_double]
  simp [memKey, Nat.add_assoc]

/-- A read that nothing answers gives a free value. -/
theorem readMem_silent {s : State} (hc : hasCmu s = false) (hm : s.plat.memFault = []) {asi : Asi}
    (hb : bareBank s asi = none) {va : Word} {size : Size} (ha : misaligned va size = false) :
    readMem s asi va size = (s, some (freeDatum s va size)) := by
  rw [readMem_bare_eq hc]
  cases size <;> simp only [bareRead, memException_of_nil hm, hb, Bool.false_eq_true, if_false, Option.map_some]
  have h8 : va.toNat % 8 = 0 := by rw [misaligned_double] at ha; simpa using ha
  have h0 : va.getLsbD 2 = false := by
    rw [BitVec.getLsbD, Nat.testBit_eq_decide_div_mod_eq]; simp; omega
  have h1 : (va + 4).getLsbD 2 = true := by
    rw [BitVec.getLsbD, Nat.testBit_eq_decide_div_mod_eq]
    have := va.isLt
    have h4 : (4 : Word).toNat = 4 := rfl
    simp only [BitVec.toNat_add, h4, decide_eq_true_eq]; omega
  simp only [freeDatum, h0, h1, Bool.false_eq_true, if_false, if_true, BitVec.setWidth_setWidth_of_le _ (by decide : 32 ≤ 64),
    BitVec.setWidth_eq]

/-- A region that answers an access of its kind with a memory exception, in one of the bytes of the access (log 26). -/
theorem memException_of_region {s : State} {asi : Asi} {va : Word} {size : Size} {r w : Bool} {on : MemFault → Bool}
    (hon : ∀ f, on f = true → ((r && f.onRead) || (w && f.onWrite)) = true)
    (h : ∃ f ∈ s.plat.memFault, f.asi = pinAsi s asi ∧ on f = true ∧
      ∃ a, pinAddress s va ≤ a ∧ a < pinAddress s va + size.bytes ∧ f.lo ≤ a ∧ a ≤ f.hi) : memException s r w false asi va size = true := by
  obtain ⟨f, hf, ha, ho, a, h1, h2, h3, h4⟩ := h
  refine List.any_eq_true.2 ⟨f, hf, ?_⟩
  simp [ha, hon f ho, show f.lo < pinAddress s va + size.bytes by omega, show pinAddress s va ≤ f.hi by omega]

/-- A read that meets a memory exception in one of its bytes changes nothing. -/
theorem readMem_exception {s : State} (hc : hasCmu s = false) {asi : Asi} {va : Word} {size : Size}
    (ha : misaligned va size = false)
    (hm : ∃ f ∈ s.plat.memFault, f.asi = pinAsi s asi ∧ f.onRead = true ∧
      ∃ a, pinAddress s va ≤ a ∧ a < pinAddress s va + size.bytes ∧ f.lo ≤ a ∧ a ≤ f.hi) :
    readMem s asi va size = (s, none) := by
  have hon : ∀ f : MemFault, f.onRead = true → ((true && f.onRead) || (false && f.onWrite)) = true := by simp
  rw [readMem_bare_eq hc]
  cases size
  case double =>
    obtain ⟨f, hf, h1, h2, a, h3, h4, h5, h6⟩ := hm
    simp only [Size.bytes] at h4
    rcases Nat.lt_or_ge a (pinAddress s va + 4) with h | h
    · have := memException_of_region (size := .word) hon ⟨f, hf, h1, h2, a, h3, h, h5, h6⟩
      simp only [bareRead, Bool.not_false, this, if_true]
    · have h7 := pinAddress_add_four s ha
      have := memException_of_region (size := .word) (va := va + 4) hon
        ⟨f, hf, h1, h2, a, by omega, by simp only [Size.bytes]; omega, h5, h6⟩
      simp only [bareRead, Bool.not_false, this, if_true]
      split <;> simp_all
  all_goals simp only [bareRead, Bool.not_false, memException_of_region hon hm, if_true, Option.map_none]

/-- A store that a bank answers. -/
theorem writeMem_bare {s : State} (hc : hasCmu s = false) (hm : s.plat.memFault = []) {asi : Asi} {b : Nat}
    (hb : bareBank s asi = some b) (va : Word) (size : Size) (v : DWord) :
    writeMem s asi va size v = (storeAt s (memKey b (pinAddress s va)) size v, true) := by
  simp [writeMem, hc, bareStore, memException_of_nil hm, hb]

/-- A store that nothing answers changes nothing. -/
theorem writeMem_silent {s : State} (hc : hasCmu s = false) (hm : s.plat.memFault = []) {asi : Asi}
    (hb : bareBank s asi = none) (va : Word) (size : Size) (v : DWord) : writeMem s asi va size v = (s, true) := by
  simp [writeMem, hc, bareStore, memException_of_nil hm, hb]

/-- A store that meets a memory exception changes nothing. -/
theorem writeMem_exception {s : State} (hc : hasCmu s = false) {asi : Asi} {va : Word} {size : Size} (v : DWord)
    (hm : memException s false true false asi va size = true) : writeMem s asi va size v = (s, false) := by
  simp [writeMem, hc, bareStore, hm]

/-- An exchange that a bank answers: the old datum, and the new one stored. -/
theorem exchangeMem_bare {s : State} (hc : hasCmu s = false) (hm : s.plat.memFault = []) {asi : Asi} {b : Nat}
    (hb : bareBank s asi = some b) (va : Word) (size : Size) (v : DWord) :
    exchangeMem s asi va size v =
      (storeAt s (memKey b (pinAddress s va)) size v, some (datumAt s.mem (memKey b (pinAddress s va)) size)) := by
  simp [exchangeMem, hc, bareExchange, memException_of_nil hm, hb]

/-- An exchange that nothing answers gives a free value and changes nothing. -/
theorem exchangeMem_silent {s : State} (hc : hasCmu s = false) (hm : s.plat.memFault = []) {asi : Asi}
    (hb : bareBank s asi = none) (va : Word) (size : Size) (v : DWord) :
    exchangeMem s asi va size v = (s, some (freeDatum s va size)) := by
  simp [exchangeMem, hc, bareExchange, memException_of_nil hm, hb]

/-- An exchange that meets a memory exception changes nothing. -/
theorem exchangeMem_exception {s : State} (hc : hasCmu s = false) {asi : Asi} {va : Word} {size : Size} (v : DWord)
    (hm : memException s true true false asi va size = true) : exchangeMem s asi va size v = (s, none) := by
  simp [exchangeMem, hc, bareExchange, hm]

/-- A fetch without a CMU, where no store of the last four instructions is remembered. -/
theorem fetch_bare {s : State} (hc : hasCmu s = false) (hm : s.plat.memFault = []) (hh : s.codeHist = []) :
    fetch s = (s, some ((datumAt s.mem (memKey 0 (pinAddress s s.pc)) .word).setWidth 32)) := by
  simp [fetch, hc, bareRead, memException_of_nil hm, bareBank_instrAsi, fetchedWord, hh]

theorem noteStore_eq (s : State) (p : Nat → CodePlace) (k : Nat) (size : Size) (old : DWord) :
    noteStore s p k size old = { s with codeHist := (noteStore s p k size old).codeHist } := by
  cases size <;> rfl

/-- A store changes memory and the record of changed code alone. -/
theorem storeAt_eq (s : State) (k : Nat) (size : Size) (v : DWord) :
    storeAt s k size v = { s with mem := setDatum s.mem k size v, codeHist := (storeAt s k size v).codeHist } := by
  cases size <;> rfl

/-- The bytes after a store. -/
theorem byteAt_storeAt (s : State) (k : Nat) (size : Size) (v : DWord) (j : Nat) :
    byteAt (storeAt s k size v).mem j =
      if k ≤ j ∧ j < k + size.bytes then (datumBytes v size).getD (j - k) 0 else byteAt s.mem j := by
  rw [← byteAt_setDatum]; cases size <;> rfl

/-! ## What any access may change -/

/-- `t` is `s` but for memory, the CMU, the record of changed code and the counter of free values; the canonical forms are kept,
and what is new in that record has its whole window left. -/
def Accessed (s t : State) : Prop :=
  t = { s with mem := t.mem, codeHist := t.codeHist, cmu := t.cmu, draws := t.draws } ∧ (s.stored = true → t.stored = true) ∧
    ∀ e ∈ t.codeHist, e ∈ s.codeHist ∨ e.left = 5

theorem Accessed.refl (s : State) : Accessed s s := ⟨rfl, id, fun _ h => .inl h⟩

theorem Accessed.trans {s t u : State} (h : Accessed s t) (g : Accessed t u) : Accessed s u := by
  obtain ⟨h1, h2, h3⟩ := h
  obtain ⟨g1, g2, g3⟩ := g
  refine ⟨?_, fun x => g2 (h2 x), fun e he => ?_⟩
  · rw [h1] at g1; exact g1
  · rcases g3 e he with h | h
    · exact h3 e h
    · exact .inr h

/-- What `State.stored` says, part by part. -/
theorem stored_iff (s : State) : s.stored = true ↔ Memory.wf s.mem = true ∧ Memory.wf s.cmu.data = true ∧
    sparseWf Tag.reset s.cmu.tags = true ∧ sparseWf MpTag.reset s.cmu.mptags = true ∧ s.cmu.buffered = true := by
  simp [State.stored, and_assoc]

/-- A change of the CMU that leaves its cache and tags, and keeps the form of its write buffers. -/
theorem accessed_withCmu {s : State} {c : Cmu} (hd : c.data = s.cmu.data) (ht : c.tags = s.cmu.tags)
    (hm : c.mptags = s.cmu.mptags) (hw : s.cmu.buffered = true → c.buffered = true) : Accessed s (withCmu s c) := by
  refine ⟨rfl, fun h => ?_, fun _ h => .inl h⟩
  rw [stored_iff] at h ⊢
  exact ⟨h.1, by simpa [hd] using h.2.1, by simpa [ht] using h.2.2.1, by simpa [hm] using h.2.2.2.1, hw h.2.2.2.2⟩

theorem accessed_refresh (s : State) : Accessed s (refresh s) := ⟨rfl, id, fun _ h => .inl h⟩

theorem accessed_setBytes (s : State) (k : Nat) (bs : List Byte) : Accessed s { s with mem := setBytes s.mem k bs } := by
  refine ⟨rfl, fun h => ?_, fun _ h => .inl h⟩
  rw [stored_iff] at h ⊢
  exact ⟨wf_setBytes _ _ _ h.1, h.2⟩

theorem accessed_withData (s : State) (k : Nat) (bs : List Byte) : Accessed s (withData s (setBytes s.cmu.data k bs)) := by
  refine ⟨rfl, fun h => ?_, fun _ h => .inl h⟩
  rw [stored_iff] at h ⊢
  exact ⟨h.1, wf_setBytes _ _ _ h.2.1, h.2.2⟩

theorem accessed_setTag (s : State) (n : Nat) (t : Tag) : Accessed s (setTag s n t) := by
  refine ⟨rfl, fun h => ?_, fun _ h => .inl h⟩
  rw [stored_iff] at h ⊢
  exact ⟨h.1, h.2.1, sparseWf_set _ _ _ _ h.2.2.1, h.2.2.2⟩

theorem accessed_setMpTag (s : State) (n : Nat) (t : MpTag) : Accessed s (setMpTag s n t) := by
  refine ⟨rfl, fun h => ?_, fun _ h => .inl h⟩
  rw [stored_iff] at h ⊢
  exact ⟨h.1, h.2.1, h.2.2.1, sparseWf_set _ _ _ _ h.2.2.2.1, h.2.2.2.2⟩

theorem accessed_noteStore (s : State) (p : Nat → CodePlace) (k : Nat) (size : Size) (old : DWord) :
    Accessed s (noteStore s p k size old) := by
  refine ⟨by cases size <;> rfl, fun h => by cases size <;> exact h, fun e he => ?_⟩
  cases size <;> simp only [noteStore, List.mem_cons] at he <;>
    rcases he with he | he <;> first | (rw [he]; exact .inr rfl) | exact .inl he | skip
  rcases he with he | he
  · rw [he]; exact .inr rfl
  · exact .inl he

theorem accessed_storeAt (s : State) (k : Nat) (size : Size) (v : DWord) : Accessed s (storeAt s k size v) := by
  have h : storeAt s k size v = { noteStore s .memory k size (datumAt s.mem (k / 4 * 4) (wordsOf size)) with
      mem := setBytes (noteStore s .memory k size (datumAt s.mem (k / 4 * 4) (wordsOf size))).mem k (datumBytes v size) } := by
    cases size <;> rfl
  rw [h]
  exact (accessed_noteStore ..).trans (accessed_setBytes ..)

/-! ## The write buffers -/

/-- What `Cmu.buffered` says. -/
theorem buffered_iff (c : Cmu) : c.buffered = true ↔
    (c.wbuf.length ≤ 4 ∧ ∀ b ∈ c.wbuf, b.bytes.length ≤ 8) ∨ (c.wbuf.length = 1 ∧ ∀ b ∈ c.wbuf, b.bytes.length = 32) := by
  simp [Cmu.buffered, WriteBuffer.isLine]

theorem buffered_tail {b : WriteBuffer} {rest : List WriteBuffer} {c d : Cmu} (hc : c.wbuf = b :: rest) (hd : d.wbuf = rest)
    (h : c.buffered = true) : d.buffered = true := by
  simp only [buffered_iff, hc, hd, List.length_cons, List.forall_mem_cons] at h ⊢
  rcases h with ⟨h1, _, h2⟩ | ⟨h1, _⟩
  · exact .inl ⟨by omega, h2⟩
  · have : rest = [] := List.eq_nil_of_length_eq_zero (by omega)
    simp [this]

theorem recordAsync_kept (c : Cmu) (e : BusError) (pa : Nat) :
    (recordAsync c e pa).data = c.data ∧ (recordAsync c e pa).tags = c.tags ∧ (recordAsync c e pa).mptags = c.mptags ∧
      (recordAsync c e pa).wbuf = c.wbuf := by
  unfold recordAsync; split <;> exact ⟨rfl, rfl, rfl, rfl⟩

theorem buffered_congr {c d : Cmu} (h : d.wbuf = c.wbuf) : c.buffered = true → d.buffered = true := by
  simp [Cmu.buffered, h]

/-- A drain. -/
theorem accessed_drainOne (s : State) : Accessed s (drainOne s) := by
  unfold drainOne
  split
  · exact Accessed.refl s
  · rename_i b rest hb
    have h1 : Accessed s (withCmu s { s.cmu with wbuf := rest }) :=
      accessed_withCmu rfl rfl rfl (buffered_tail hb rfl)
    dsimp only
    split
    · have k := recordAsync_kept (withCmu s { s.cmu with wbuf := rest }).cmu
      exact h1.trans (accessed_withCmu (k ..).1 (k ..).2.1 (k ..).2.2.1 (buffered_congr (k ..).2.2.2))
    · exact h1.trans (accessed_setBytes ..)

/-- A drain takes the oldest buffer away. -/
theorem drainOne_wbuf (s : State) : (drainOne s).cmu.wbuf = s.cmu.wbuf.tail := by
  unfold drainOne
  split
  · rename_i h; simp [h]
  · rename_i b rest hb
    dsimp only
    split
    · rw [withCmu_cmu, (recordAsync_kept ..).2.2.2]; simp [hb]
    · simp [hb]

theorem accessed_foldl_drainOne {β : Type} (l : List β) (s : State) : Accessed s (l.foldl (fun t _ => drainOne t) s) := by
  induction l generalizing s with
  | nil => exact Accessed.refl s
  | cons b l ih => exact (accessed_drainOne s).trans (ih _)

theorem foldl_drainOne_wbuf {β : Type} (l : List β) (s : State) :
    (l.foldl (fun t _ => drainOne t) s).cmu.wbuf = s.cmu.wbuf.drop l.length := by
  induction l generalizing s with
  | nil => rfl
  | cons b l ih => rw [List.foldl_cons, ih, drainOne_wbuf, List.length_cons, List.drop_tail]

theorem accessed_drainAll (s : State) : Accessed s (drainAll s) := accessed_foldl_drainOne ..

/-- After the wait the buffers are empty. -/
@[simp] theorem drainAll_wbuf (s : State) : (drainAll s).cmu.wbuf = [] := by
  rw [drainAll, foldl_drainOne_wbuf, List.drop_length]

/-- With no buffer full there is nothing to wait for. -/
theorem drainAll_of_nil {s : State} (h : s.cmu.wbuf = []) : drainAll s = s := by simp [drainAll, h]

theorem accessed_makeRoom (s : State) (n : Nat) : Accessed s (makeRoom s n) := by
  unfold makeRoom
  split
  · exact accessed_drainAll s
  · split
    · exact Accessed.refl s
    · exact accessed_drainOne s

/-- There is room for a write after the wait. -/
theorem makeRoom_room {s : State} {n : Nat} (h : s.cmu.buffered = true) :
    (makeRoom s n).cmu.wbuf = [] ∨
      n ≠ 32 ∧ (makeRoom s n).cmu.wbuf.length ≤ 3 ∧ ∀ b ∈ (makeRoom s n).cmu.wbuf, b.bytes.length ≤ 8 := by
  unfold makeRoom
  split
  · exact .inl (drainAll_wbuf s)
  · rename_i hn
    simp only [Bool.or_eq_true, decide_eq_true_eq, List.any_eq_true, not_or, not_exists, not_and] at hn
    rw [buffered_iff] at h
    refine .inr ⟨hn.1, ?_⟩
    have h8 : s.cmu.wbuf.length ≤ 4 ∧ ∀ b ∈ s.cmu.wbuf, b.bytes.length ≤ 8 := by
      rcases h with h | ⟨h, h'⟩
      · exact h
      · obtain ⟨b, hb⟩ := List.length_eq_one_iff.1 h
        exact absurd (decide_eq_true (h' b (by simp [hb]))) (hn.2 b (by simp [hb]))
    split
    · exact ⟨by omega, h8.2⟩
    · rw [drainOne_wbuf]
      exact ⟨by rw [List.length_tail]; omega, fun b hb => h8.2 b (List.mem_of_mem_tail hb)⟩

/-- A buffered write of a store's datum or of a line. -/
theorem accessed_busWrite (s : State) (bank pa : Nat) {bs : List Byte} (hb : bs.length ≤ 8 ∨ bs.length = 32) :
    Accessed s (busWrite s bank pa bs) := by
  have hs := accessed_makeRoom s bs.length
  refine ⟨?_, fun h => ?_, fun e he => hs.2.2 e he⟩
  · have := hs.1
    unfold busWrite
    rw [this]; rfl
  · have ht := hs.2.1 h
    have hr := makeRoom_room (n := bs.length) ((stored_iff s).1 h).2.2.2.2
    rw [stored_iff] at ht ⊢
    refine ⟨ht.1, ht.2.1, ht.2.2.1, ht.2.2.2.1, ?_⟩
    have hw : (busWrite s bank pa bs).cmu.wbuf =
        (makeRoom s bs.length).cmu.wbuf ++ [{ bank := bank, pa := pa, bytes := bs }] := rfl
    rw [buffered_iff, hw]
    rcases hr with hr | ⟨hn, hl, ha⟩
    · rcases hb with hb | hb
      · left; simpa [hr] using hb
      · right; simpa [hr] using hb
    · left
      refine ⟨by simp; omega, fun b hb' => ?_⟩
      rcases List.mem_append.1 hb' with hb' | hb'
      · exact ha b hb'
      · rw [List.mem_singleton.1 hb']; exact hb.resolve_right hn

theorem accessed_busWrite_datum (s : State) (bank pa : Nat) (v : DWord) (size : Size) :
    Accessed s (busWrite s bank pa (datumBytes v size)) :=
  accessed_busWrite s bank pa (.inl (by rw [datumBytes_length]; cases size <;> decide))

theorem accessed_settleRead (s : State) (bank pa n : Nat) : Accessed s (settleRead s bank pa n) := by
  unfold settleRead; split
  · exact accessed_drainAll s
  · exact Accessed.refl s

theorem accessed_settleWalk (s : State) : Accessed s (settleWalk s) := by
  unfold settleWalk; split
  · exact accessed_drainAll s
  · exact Accessed.refl s

/-- With no buffer full a read waits for nothing. -/
theorem settleRead_of_nil {s : State} (h : s.cmu.wbuf = []) (bank pa n : Nat) : settleRead s bank pa n = s := by
  simp [settleRead, h]

/-- With no buffer full a table walk waits for nothing. -/
theorem settleWalk_of_nil {s : State} (h : s.cmu.wbuf = []) : settleWalk s = s := by simp [settleWalk, h]

theorem accessed_busRead (s : State) (bank pa : Nat) (size : Size) : Accessed s (busRead s bank pa size).1 := by
  unfold busRead
  dsimp only
  split <;> exact accessed_settleRead ..

/-! ## Translation -/

theorem accessed_recordSync (s : State) (f : SyncFault) (at' : BitVec 3) (va : Word) : Accessed s (recordSync s f at' va) := by
  unfold recordSync
  split
  dsimp only
  split
  · exact accessed_withCmu rfl rfl rfl id
  · exact Accessed.refl s

theorem accessed_recordFault (s : State) (f : SyncFault) (asi : Asi) (w : Bool) (va : Word) :
    Accessed s (recordFault s f asi w va) := accessed_recordSync ..

theorem accessed_setTlb (s : State) (i : Nat) (e : TlbEntry) : Accessed s (withCmu s (setTlb s.cmu i e)) :=
  accessed_withCmu rfl rfl rfl id

theorem accessed_loadTlb (s : State) (e : TlbEntry) : Accessed s (loadTlb s e) := accessed_setTlb ..

theorem accessed_updatePte {s t : State} {h : WalkHit} {w : Bool} {p : Word} (hh : updatePte s h w = .ok (t, p)) :
    Accessed s t := by
  unfold updatePte at hh
  dsimp only at hh
  generalize h.pte ||| 0x20#32 ||| (if w then 0x40#32 else 0#32) = q at hh
  split at hh
  · cases hh; exact Accessed.refl s
  · split at hh
    · cases hh
    · cases hh; exact accessed_setBytes ..

theorem fillPointers_kept (c : Cmu) (h : WalkHit) (va : Word) (cxn : BitVec 12) (i f : Bool) :
    (fillPointers c h va cxn i f).data = c.data ∧ (fillPointers c h va cxn i f).tags = c.tags ∧
      (fillPointers c h va cxn i f).mptags = c.mptags ∧ (fillPointers c h va cxn i f).wbuf = c.wbuf := by
  unfold fillPointers
  dsimp only
  cases h.root <;> cases h.ptp2 <;> (try dsimp only) <;> (try split) <;> (try split) <;> (try split) <;>
    exact ⟨rfl, rfl, rfl, rfl⟩

/-- A table walk. -/
theorem accessed_tableWalk (s : State) (va : Word) (cxn : BitVec 12) (p : Purpose) (miss : Bool) :
    Accessed s (tableWalk s va cxn p miss).1 := by
  have hs := accessed_settleWalk s
  unfold tableWalk
  dsimp only
  split
  · exact hs
  · split
    · exact hs
    · rename_i hu
      split
      · exact hs.trans (accessed_updatePte hu)
      · have k := fun c => fillPointers_kept c
        exact hs.trans ((accessed_updatePte hu).trans
          (accessed_withCmu (k ..).1 (k ..).2.1 (k ..).2.2.1 (buffered_congr (k ..).2.2.2)))

/-- A translation. -/
theorem accessed_translate (s : State) (va : Word) (cxn : BitVec 12) (sup : Bool) (p : Purpose) :
    Accessed s (translate s va cxn sup p).1 := by
  unfold translate
  dsimp only
  split
  · have hw := accessed_tableWalk s va cxn p true
    split <;> rename_i he <;> rw [he] at hw
    · exact hw
    · exact hw.trans ((accessed_loadTlb ..).trans (accessed_refresh _))
  · split
    · exact Accessed.refl s
    · split
      · have hw := accessed_tableWalk s va cxn p false
        split <;> rename_i he <;> rw [he] at hw
        · exact hw
        · exact hw.trans (accessed_setTlb ..)
      · exact Accessed.refl s
  · exact accessed_refresh s

theorem accessed_tlbOnly (s : State) (va : Word) (cxn : BitVec 12) (sup : Bool) : Accessed s (tlbOnly s va cxn sup).1 := by
  unfold tlbOnly
  dsimp only
  split
  · exact Accessed.refl s
  · exact Accessed.refl s
  · exact accessed_refresh s

/-! ## The cache -/

theorem accessed_invalidateLine (s : State) (n : Nat) : Accessed s (invalidateLine s n) := by
  unfold invalidateLine
  dsimp only
  split
  · exact (accessed_setTag ..).trans (accessed_setMpTag ..)
  · exact accessed_setTag ..

theorem accessed_markModified (s : State) (n : Nat) : Accessed s (markModified s n) := by
  unfold markModified
  split
  · exact (accessed_setTag ..).trans (accessed_setMpTag ..)
  · exact accessed_setTag ..

@[simp] theorem lineBytes_length (m : List Host.Cell) (k : Nat) : (lineBytes m k).length = 32 := by simp [lineBytes]

theorem accessed_writeBack (s : State) (va : Word) (ppn : BitVec 24) : Accessed s (writeBack s va ppn) :=
  accessed_busWrite _ _ _ (.inr (lineBytes_length ..))

theorem accessed_replaceLine (s : State) (va : Word) (ppn : BitVec 24) : Accessed s (replaceLine s va ppn) := by
  unfold replaceLine
  dsimp only
  split
  · exact (accessed_writeBack s va ppn).trans (accessed_drainAll _)
  · exact accessed_writeBack s va ppn

theorem accessed_loadTags (s : State) (va : Word) (page : Page) : Accessed s (loadTags s va page) := by
  unfold loadTags
  dsimp only
  split
  · exact (accessed_setTag ..).trans (accessed_setMpTag ..)
  · exact accessed_setTag ..

theorem accessed_occupantPage (s : State) (va : Word) : Accessed s (occupantPage s va).1 := by
  unfold occupantPage
  dsimp only
  split
  · exact Accessed.refl s
  · split
    · exact Accessed.refl s
    · split
      · have ht := accessed_translate s (tagAddress (tagAt s (lineIndex va)) va) (tagAt s (lineIndex va)).cxn
          (tagAt s (lineIndex va)).s .line
        split <;> rename_i he <;> rw [he] at ht <;> exact ht
      · exact accessed_tlbOnly ..

theorem accessed_loadLine (s : State) (va : Word) (page : Page) (o : Option (BitVec 24)) :
    Accessed s (loadLine s va page o).1 := by
  unfold loadLine
  dsimp only
  split
  · exact accessed_drainAll s
  · generalize lineBytes (drainAll s).mem (memKey 0 (lineAddress page.ppn va)) = bs
    have h1 : Accessed s (withCmu (drainAll s) { (drainAll s).cmu with rbuf := some bs }) :=
      (accessed_drainAll s).trans (accessed_withCmu rfl rfl rfl id)
    generalize withCmu (drainAll s) { (drainAll s).cmu with rbuf := some bs } = s1 at h1 ⊢
    refine h1.trans (Accessed.trans (t := match lineModified s1 (lineIndex va), o with
      | true, some ppn => replaceLine s1 va ppn
      | _, _ => s1) ?_ ((accessed_withData ..).trans (accessed_loadTags ..)))
    split
    · exact accessed_replaceLine ..
    · exact Accessed.refl s1

theorem accessed_serveMiss (s : State) (va : Word) (page : Page) : Accessed s (serveMiss s va page).1 := by
  unfold serveMiss
  split
  · exact Accessed.refl s
  · have ho := accessed_occupantPage s va
    split <;> rename_i he <;> rw [he] at ho
    · exact ho
    · split
      · exact ho.trans (accessed_setTag ..)
      · rename_i s1 o _
        have hl := accessed_loadLine s1 va page o
        split <;> rename_i he' <;> rw [he'] at hl <;> exact ho.trans hl

theorem accessed_cachedRead (s : State) (va : Word) (sup : Bool) (page : Page) (size : Size) :
    Accessed s (cachedRead s va sup page size).1 := by
  unfold cachedRead
  split
  · exact Accessed.refl s
  · have hm := accessed_serveMiss s va page
    split <;> rename_i he <;> rw [he] at hm
    · exact hm
    · exact hm
    · exact hm.trans ((accessed_drainAll _).trans (accessed_busRead ..))

theorem accessed_cachedTarget (s : State) (va : Word) (sup : Bool) (page : Page) :
    Accessed s (cachedTarget s va sup page).1 := by
  unfold cachedTarget
  dsimp only
  split
  · exact Accessed.refl s
  · split
    · exact Accessed.refl s
    · have hm := accessed_serveMiss s va page
      split <;> rename_i he <;> rw [he] at hm <;> exact hm

theorem accessed_putCache (s : State) (t : StoreTarget) (va : Word) (size : Size) (v : DWord) :
    Accessed s (putCache s t va size v) := by
  cases t
  case cache => exact (accessed_withData ..).trans (accessed_markModified ..)
  case both => exact accessed_withData ..
  case missed => exact accessed_invalidateLine ..
  all_goals exact Accessed.refl s

theorem accessed_putMemory (s : State) (place : Option (Nat × Nat)) (v : DWord) (size : Size) :
    Accessed s (putMemory s place (datumBytes v size)) := by
  cases place
  · exact Accessed.refl s
  · exact accessed_busWrite_datum ..

theorem accessed_putStore (s : State) (t : StoreTarget) (va : Word) (size : Size) (v : DWord) :
    Accessed s (putStore s t va size v) := (accessed_putCache ..).trans (accessed_putMemory ..)

theorem accessed_cachedWrite (s : State) (va : Word) (sup : Bool) (page : Page) (size : Size) (v : DWord) :
    Accessed s (cachedWrite s va sup page size v).1 := by
  unfold cachedWrite
  have hm := accessed_cachedTarget s va sup page
  split <;> rename_i he <;> rw [he] at hm
  · exact hm
  · exact hm.trans (accessed_putStore ..)

theorem accessed_lockedExchange (s : State) (bank pa : Nat) (size : Size) (v : DWord) :
    Accessed s (lockedExchange s bank pa size v).1 := by
  unfold lockedExchange
  have hr := (accessed_drainAll s).trans (accessed_busRead (drainAll s) bank pa size)
  split <;> rename_i he <;> rw [he] at hr
  · exact hr
  · split
    · exact hr
    · exact hr.trans (accessed_setBytes ..)

theorem accessed_cachedExchange (s : State) (va : Word) (sup : Bool) (page : Page) (size : Size) (v : DWord) :
    Accessed s (cachedExchange s va sup page size v).1 := by
  unfold cachedExchange
  split
  · dsimp only
    split
    · exact (accessed_invalidateLine ..).trans (accessed_lockedExchange ..)
    · exact accessed_lockedExchange ..
  · split
    · exact accessed_lockedExchange ..
    · have hr := (accessed_drainAll s).trans (accessed_cachedRead (drainAll s) va sup page size)
      split <;> rename_i he <;> rw [he] at hr
      · exact hr
      · rename_i s1 old
        have hw := accessed_cachedWrite s1 va sup page size v
        split <;> rename_i he' <;> rw [he'] at hw
        · exact hr.trans hw
        · dsimp only
          split
          · exact hr.trans hw
          · exact hr.trans (hw.trans (accessed_drainAll _))

theorem accessed_flushLine (s : State) (k : Nat) (va : Word) : Accessed s (flushLine s k va).1 := by
  unfold flushLine
  dsimp only
  split
  · exact Accessed.refl s
  · split
    · exact accessed_invalidateLine ..
    · have ho := accessed_occupantPage s va
      split <;> rename_i he <;> rw [he] at ho
      · exact ho
      · exact ho.trans ((accessed_writeBack ..).trans (accessed_invalidateLine ..))
      · exact ho.trans (accessed_invalidateLine ..)

theorem accessed_shareLine (s : State) (x : Snoop) : Accessed s (shareLine s x) := by
  unfold shareLine
  dsimp only
  split
  · exact (accessed_setBytes ..).trans ((accessed_setTag ..).trans (accessed_setMpTag ..))
  · exact (accessed_setTag ..).trans (accessed_setMpTag ..)

/-- A snooped transaction. -/
theorem accessed_snoop (s : State) (x : Snoop) : Accessed s (snoop s x) := by
  unfold snoop
  dsimp only
  split
  · split
    · exact accessed_shareLine ..
    · exact Accessed.refl s
  · exact Accessed.refl s
  · split
    · exact (accessed_setBytes ..).trans (accessed_invalidateLine ..)
    · exact accessed_invalidateLine ..
  · exact Accessed.refl s
  · exact accessed_invalidateLine ..
  · exact Accessed.refl s
  · split
    · exact (accessed_setBytes ..).trans (accessed_invalidateLine ..)
    · exact accessed_setBytes ..

/-! ## The CMU's own spaces -/

theorem accessed_probe (s : State) (va : Word) : Accessed s (probe s va).1 := by
  unfold probe
  dsimp only
  split
  · exact Accessed.refl s
  · have hw := accessed_tableWalk s va s.cmu.context .probe true
    split <;> rename_i he <;> rw [he] at hw
    · exact hw.trans (accessed_withCmu rfl rfl rfl id)
    · exact hw.trans ((accessed_loadTlb ..).trans (accessed_refresh _))
  · exact Accessed.refl s

theorem accessed_readCmuReg {s : State} {a : Nat} {r : State × Word} (h : readCmuReg s a = some r) : Accessed s r.1 := by
  unfold readCmuReg at h
  dsimp only at h
  split at h <;> first
    | (cases h; exact Accessed.refl s)
    | (cases h; exact accessed_withCmu rfl rfl rfl id)
    | (cases h; dsimp only; split <;> exact accessed_withCmu rfl rfl rfl id)
    | cases h

theorem writeCmuReg_kept {s : State} {a : Nat} {v : Word} {c : Cmu} (h : writeCmuReg s a v = some c) :
    c.data = s.cmu.data ∧ c.tags = s.cmu.tags ∧ c.mptags = s.cmu.mptags ∧ c.wbuf = s.cmu.wbuf := by
  unfold writeCmuReg at h
  dsimp only at h
  split at h <;> cases h <;> exact ⟨rfl, rfl, rfl, rfl⟩

theorem accessed_settleSer (s : State) (a : Nat) (v : Word) : Accessed s (settleSer s a v) := by
  unfold settleSer; split
  · exact accessed_drainAll s
  · exact Accessed.refl s

theorem accessed_storeData (s : State) (va : Word) (size : Size) (v : DWord) : Accessed s (storeData s va size v) :=
  (accessed_withData ..).trans (accessed_noteStore ..)

theorem accessed_cmuSpaceRead {s : State} {p : CmuSpace} {va : Word} {size : Size} {r : State × DWord}
    (h : cmuSpaceRead s p va size = some r) : Accessed s r.1 := by
  unfold cmuSpaceRead at h
  split at h
  · cases h; exact accessed_probe ..
  · cases hr : readCmuReg s (va.extractLsb' 0 16).toNat with
    | none => rw [hr] at h; cases h
    | some q => rw [hr] at h; cases h; exact accessed_readCmuReg hr
  · cases hr : readTlb s va with
    | none => rw [hr] at h; cases h
    | some q => rw [hr] at h; cases h; exact Accessed.refl s
  · cases h; exact Accessed.refl s
  · cases h; exact Accessed.refl s
  · cases h; exact Accessed.refl s
  · cases h

theorem accessed_cmuSpaceStore (s : State) (p : CmuSpace) (va : Word) (size : Size) (v : DWord) :
    Accessed s (cmuSpaceStore s p va size v).1 := by
  unfold cmuSpaceStore
  dsimp only
  split
  · exact accessed_withCmu rfl rfl rfl id
  · split
    · rename_i h
      have k := writeCmuReg_kept h
      exact (accessed_settleSer ..).trans (accessed_withCmu k.1 k.2.1 k.2.2.1 (buffered_congr k.2.2.2))
    · exact accessed_withCmu rfl rfl rfl id
  · split
    · rename_i h
      unfold writeTlb at h
      dsimp only at h
      split at h
      · cases h; exact accessed_setTlb ..
      · cases h
    · exact accessed_setTlb ..
  · exact accessed_setTag ..
  · exact accessed_setMpTag ..
  · exact accessed_storeData ..
  · exact accessed_flushLine ..
  · exact Accessed.refl s

/-! ## The accesses of the IU -/

theorem accessed_cmuRead (s : State) (asi : Asi) (va : Word) (size : Size) : Accessed s (cmuRead s asi va size).1 := by
  unfold cmuRead
  dsimp only
  split
  · split
    · exact accessed_settleRead ..
    · exact Accessed.refl s
  · rename_i bank pa _
    have hb := accessed_busRead s bank pa size
    split <;> rename_i he <;> rw [he] at hb
    · exact hb
    · exact hb.trans (accessed_recordFault ..)
  · have ht := accessed_translate s va s.cmu.context (asiSupervisor asi) (.access (accessType asi false))
    split <;> rename_i he <;> rw [he] at ht
    · exact ht.trans (accessed_recordFault ..)
    · rename_i s1 page
      have hr : Accessed s1 (if throughCache s1 page = true then cachedRead s1 va (asiSupervisor asi) page size
          else busRead s1 0 (page.address va) size).1 := by
        split
        · exact accessed_cachedRead ..
        · exact accessed_busRead ..
      split <;> rename_i he' <;> rw [he'] at hr
      · exact ht.trans hr
      · exact ht.trans (hr.trans (accessed_recordFault ..))
  · split
    · rename_i h; exact accessed_cmuSpaceRead h
    · exact Accessed.refl s

/-- The first half of a store. -/
theorem accessed_openStore (s : State) (asi : Asi) (va : Word) (size : Size) : Accessed s (openStore s asi va size).1 := by
  unfold openStore
  dsimp only
  split
  · exact Accessed.refl s
  · have ht := accessed_translate s va s.cmu.context (asiSupervisor asi) (.access (accessType asi true))
    split <;> rename_i he <;> rw [he] at ht
    · exact ht.trans (accessed_recordFault ..)
    · rename_i s1 page
      have hr : Accessed s1 (if throughCache s1 page = true then cachedTarget s1 va (asiSupervisor asi) page
          else (s1, .ok (.memory 0 (page.address va)))).1 := by
        split
        · exact accessed_cachedTarget ..
        · exact Accessed.refl s1
      split <;> rename_i he' <;> rw [he'] at hr
      · exact ht.trans hr
      · exact ht.trans (hr.trans (accessed_recordFault ..))
  · exact Accessed.refl s

theorem accessed_noteTarget {s u : State} (v : State) (h : Accessed s u) (t : StoreTarget) (va : Word) (size : Size) :
    Accessed s (noteTarget v u t va size) := by
  cases t
  case nowhere => exact h
  all_goals exact h.trans (accessed_noteStore ..)

/-- The second half of a store. -/
theorem accessed_closeStore (s : State) (t : StoreTarget) (va : Word) (size : Size) (v : DWord) :
    Accessed s (closeStore s t va size v) := accessed_noteTarget _ (accessed_putStore ..) ..

/-- The second half of a doubleword store. -/
theorem accessed_closePair (s : State) (hi lo : StoreTarget) (va : Word) (v : DWord) : Accessed s (closePair s hi lo va v) := by
  unfold closePair
  split
  · exact Accessed.refl s
  · refine accessed_noteTarget _ (accessed_noteTarget _ ?_ ..) ..
    split
    · exact (accessed_putCache ..).trans ((accessed_putCache ..).trans (accessed_putMemory ..))
    · exact (accessed_putCache ..).trans
        ((accessed_putCache ..).trans ((accessed_putMemory ..).trans (accessed_putMemory ..)))

theorem accessed_cmuStore (s : State) (asi : Asi) (va : Word) (size : Size) (v : DWord) :
    Accessed s (cmuStore s asi va size v).1 := by
  have ho := accessed_openStore s asi va size
  unfold cmuStore
  split
  · split
    · exact (accessed_settleRead ..).trans (accessed_storeAt ..)
    · exact Accessed.refl s
  · split <;> rename_i he <;> rw [he] at ho
    · exact ho.trans (accessed_closeStore ..)
    · exact ho
  · split <;> rename_i he <;> rw [he] at ho
    · exact ho.trans (accessed_closeStore ..)
    · exact ho
  · have hs := accessed_cmuSpaceStore s (cmuSpace s asi va) va size v
    split <;> rename_i he <;> rw [he] at hs
    · exact hs
    · exact hs.trans (accessed_recordFault ..)

theorem accessed_cmuStorePair (s : State) (asi : Asi) (va : Word) (v : DWord) : Accessed s (cmuStorePair s asi va v).1 := by
  unfold cmuStorePair
  have h1 := accessed_openStore s asi va .word
  split <;> rename_i he <;> rw [he] at h1
  · exact h1
  · rename_i s1 hi
    have h2 := h1.trans ((accessed_refresh s1).trans (accessed_openStore (refresh s1) asi (va + 4) .word))
    split <;> rename_i he' <;> rw [he'] at h2
    · exact h2
    · exact h2.trans (accessed_closePair ..)

theorem accessed_cmuExchange (s : State) (asi : Asi) (va : Word) (size : Size) (v : DWord) :
    Accessed s (cmuExchange s asi va size v).1 := by
  unfold cmuExchange
  dsimp only
  split
  · split
    · exact (accessed_drainAll s).trans (accessed_storeAt ..)
    · exact Accessed.refl s
  · rename_i bank pa _
    have hl := accessed_lockedExchange s bank pa size v
    split <;> rename_i he <;> rw [he] at hl
    · exact hl.trans (accessed_noteStore ..)
    · exact hl.trans (accessed_recordFault ..)
  · have ht := accessed_translate s va s.cmu.context (asiSupervisor asi) (.access (accessType asi true))
    split <;> rename_i he <;> rw [he] at ht
    · exact ht.trans (accessed_recordFault ..)
    · rename_i s1 page
      have hr : Accessed s1 (if throughCache s1 page = true then cachedExchange s1 va (asiSupervisor asi) page size v
          else lockedExchange s1 0 (page.address va) size v).1 := by
        split
        · exact accessed_cachedExchange ..
        · exact accessed_lockedExchange ..
      split <;> rename_i he' <;> rw [he'] at hr
      · exact ht.trans (hr.trans (accessed_noteStore ..))
      · exact ht.trans (hr.trans (accessed_recordFault ..))
  · exact accessed_withCmu rfl rfl rfl id
  · exact accessed_setTlb ..
  · exact accessed_storeData ..
  · exact accessed_setTag ..
  · exact accessed_setMpTag ..
  · have hs := accessed_cmuSpaceStore s (cmuSpace s asi va) va size v
    split <;> rename_i he <;> rw [he] at hs
    · exact hs
    · exact hs.trans (accessed_recordFault ..)

/-- A data read of one transfer. -/
theorem accessed_readOne (s : State) (asi : Asi) (va : Word) (size : Size) : Accessed s (readOne s asi va size).1 := by
  unfold readOne
  split
  · exact accessed_cmuRead ..
  · exact Accessed.refl s

theorem accessed_readPair (s : State) (asi : Asi) (va : Word) : Accessed s (readPair s asi va).1 := by
  unfold readPair
  have h1 := accessed_readOne s asi va .word
  split <;> rename_i he <;> rw [he] at h1
  · exact h1
  · rename_i s1 hi
    have h2 : Accessed s1 (readOne (if hasCmu s then refresh s1 else s1) asi (va + 4) .word).1 := by
      split
      · exact (accessed_refresh s1).trans (accessed_readOne ..)
      · exact accessed_readOne ..
    split <;> rename_i he' <;> rw [he'] at h2 <;> exact h1.trans h2

/-- A data read. -/
theorem accessed_readMem (s : State) (asi : Asi) (va : Word) (size : Size) : Accessed s (readMem s asi va size).1 := by
  unfold readMem
  split
  · split
    · exact accessed_readOne ..
    · exact accessed_readPair ..
  · exact accessed_readOne ..

/-- A data write. -/
theorem accessed_writeMem (s : State) (asi : Asi) (va : Word) (size : Size) (v : DWord) :
    Accessed s (writeMem s asi va size v).1 := by
  unfold writeMem
  split
  · split
    · exact accessed_cmuStorePair ..
    · exact accessed_cmuStore ..
  · unfold bareStore
    split <;> rename_i h <;> split at h <;> first | cases h | skip
    · split at h <;> cases h
      · exact accessed_storeAt ..
      · exact Accessed.refl s
    · exact Accessed.refl s
    · split at h <;> cases h

/-- An atomic exchange. -/
theorem accessed_exchangeMem (s : State) (asi : Asi) (va : Word) (size : Size) (v : DWord) :
    Accessed s (exchangeMem s asi va size v).1 := by
  unfold exchangeMem
  split
  · exact accessed_cmuExchange ..
  · unfold bareExchange
    split <;> rename_i h <;> split at h <;> first | cases h | skip
    · split at h <;> cases h
      · exact accessed_storeAt ..
      · exact Accessed.refl s
    · exact Accessed.refl s
    · split at h <;> cases h

/-- A fetch. -/
theorem accessed_fetch (s : State) : Accessed s (fetch s).1 := by
  unfold fetch
  split
  · exact (accessed_cmuRead ..).trans (accessed_refresh _)
  · exact Accessed.refl s

end Sys2Proof.Machine
end

