-- ==== Sys2Proof/Laws/Coproc.lean ====
section
/-! SUPPORT. What the coprocessor's queue can do (45_coprocessor.md R340, R344, R345). -/
namespace Sys2Proof.Machine

/-! ## The condition codes -/

/-- A bit of CCC's place is taken from the old word. -/
theorem getLsbD_keepCcc (old new : Word) (p : Fin 32) (h : p = Config.cpCccPlace.1 ∨ p = Config.cpCccPlace.2) :
    (keepCcc old new).getLsbD p = old.getLsbD p := by
  have hm : ((1#32 <<< Config.cpCccPlace.1.val) ||| (1#32 <<< Config.cpCccPlace.2.val)).getLsbD p = true := by
    rcases h with h | h <;> simp [← h, p.isLt]
  simp only [keepCcc, BitVec.getLsbD_or, BitVec.getLsbD_and, BitVec.getLsbD_not, hm]
  simp

/-- What keeps the two bits keeps CCC. -/
theorem cpCccOfCsr_keepCcc (old new : Word) : cpCccOfCsr (keepCcc old new) = cpCccOfCsr old := by
  unfold cpCccOfCsr
  rw [getLsbD_keepCcc old new _ (.inl rfl), getLsbD_keepCcc old new _ (.inr rfl)]

@[simp] theorem cpCccOfCsr_zero : cpCccOfCsr 0 = 0 := by
  unfold cpCccOfCsr; rw [show ∀ i, (0 : Word).getLsbD i = false from fun i => BitVec.getLsbD_zero]
  rw [show ∀ i, (0 : Word).getLsbD i = false from fun i => BitVec.getLsbD_zero]; rfl

/-! ## The end of a CPop -/

theorem cpBusy_iff (c : CpState) : cpBusy c = true ↔ c.mode = .execution ∧ c.cq ≠ [] := by
  simp [cpBusy]

/-- With no CPop at work nothing ends. -/
theorem cpEnd_of_idle {c : CpState} (h : cpBusy c = false) (draws i : Nat) : cpEnd draws i c = c := by
  unfold cpEnd
  split
  · rename_i hm hq; simp [cpBusy, hm, hq] at h
  · rfl

/-- The end of the front CPop: everything it can do. -/
theorem cpEnd_cases {c : CpState} (h : cpBusy c = true) (draws i : Nat) :
    ∃ (e : QueueEntry) (rest : List QueueEntry) (r : CpRegs), c.cq = e :: rest ∧
      (Config.cpCompares e.instr = false → cpCccOfCsr r.csr = cpCccOfCsr c.csr) ∧
      (cpEnd draws i c = { cpWithRegisters c r with mode := .pending } ∨
        cpEnd draws i c = { cpWithRegisters c r with cq := rest }) := by
  obtain ⟨hm, hq⟩ := (cpBusy_iff c).1 h
  obtain ⟨e, rest, hc⟩ := List.exists_cons_of_ne_nil hq
  refine ⟨e, rest, { (Config.cpOp draws i e (cpRegisters c)).1 with
    csr := if Config.cpCompares e.instr then (Config.cpOp draws i e (cpRegisters c)).1.csr
      else keepCcc c.csr (Config.cpOp draws i e (cpRegisters c)).1.csr }, hc, fun hn => ?_, ?_⟩
  · simp [hn, cpCccOfCsr_keepCcc]
  · simp only [cpEnd, hm, hc]
    split
    · exact .inl rfl
    · exact .inr rfl

theorem cpEnds_of_idle {c : CpState} (h : cpBusy c = false) (draws n : Nat) : cpEnds draws n c = c := by
  induction n with
  | zero => rfl
  | succ n ih => rw [cpEnds, cpEnd_of_idle h, ih]

/-- With no CPop at work an instruction waits for nothing. -/
theorem cpHeld_of_idle {s : State} (h : cpBusy s.cp = false) : cpHeld s = s := by simp [cpHeld, h]

/-- The wait changes the coprocessor alone. -/
theorem cpHeld_eq (s : State) : cpHeld s = withCp s (cpHeld s).cp := by
  unfold cpHeld; split <;> rfl

theorem cpCompared_eq (s : State) : cpCompared s = withCp s (cpCompared s).cp := rfl

/-- With no compare in the queue a CBccc waits for nothing. -/
theorem cpToLastCompare_of_none {q : List QueueEntry} (h : ∀ e ∈ q, Config.cpCompares e.instr = false) :
    cpToLastCompare q = 0 := by
  unfold cpToLastCompare
  rw [List.length_eq_zero_iff, List.dropWhile_eq_nil_iff]
  intro e he; simp [h e (List.mem_reverse.1 he)]

theorem cpCompared_of_idle {s : State} (h : cpBusy s.cp = false) : cpCompared s = s := by
  rw [cpCompared, cpEnds_of_idle h, withCp_self]

theorem cpCompared_of_none {s : State} (h : ∀ e ∈ s.cp.cq, Config.cpCompares e.instr = false) : cpCompared s = s := by
  rw [cpCompared, cpToLastCompare_of_none h]; rfl

/-- The end of the front entry takes at most one from the count. -/
theorem cpToLastCompare_le (e : QueueEntry) (q : List QueueEntry) : cpToLastCompare q ≤ cpToLastCompare (e :: q) - 1 := by
  unfold cpToLastCompare
  rw [List.reverse_cons, List.dropWhile_append]
  split
  · rename_i h
    rw [List.isEmpty_iff.1 h]; exact Nat.zero_le _
  · simp

/-- With no compare in the queue none is at work. -/
theorem cpComparing_of_none {c : CpState} (h : ∀ e ∈ c.cq, Config.cpCompares e.instr = false) : cpComparing c = false := by
  simp only [cpComparing, Bool.and_eq_false_iff, List.any_eq_false]
  exact .inr fun e he => by simp [h e he]

theorem cpComparing_iff (c : CpState) :
    cpComparing c = true ↔ c.mode = .execution ∧ ∃ e ∈ c.cq, Config.cpCompares e.instr = true := by
  simp only [cpComparing, Bool.and_eq_true, cpBusy_iff, List.any_eq_true]
  exact ⟨fun h => ⟨h.1.1, h.2⟩, fun h => ⟨⟨h.1, fun hq => by simp [hq] at h⟩, h.2⟩⟩

theorem none_of_cpToLastCompare {q : List QueueEntry} (h : cpToLastCompare q = 0) :
    ∀ e ∈ q, Config.cpCompares e.instr = false := by
  unfold cpToLastCompare at h
  rw [List.length_eq_zero_iff, List.dropWhile_eq_nil_iff] at h
  intro e he
  simpa using h e (List.mem_reverse.2 he)

/-- After at least as many ends as the last compare needs, no compare is left at work. -/
theorem cpEnds_compared (draws n : Nat) (c : CpState) (hn : cpToLastCompare c.cq ≤ n) :
    cpComparing (cpEnds draws n c) = false := by
  induction n generalizing c with
  | zero => exact cpComparing_of_none (none_of_cpToLastCompare (Nat.le_zero.1 hn))
  | succ n ih =>
    rw [cpEnds]
    by_cases hb : cpBusy c = true
    · obtain ⟨e, rest, r, hq, -, h | h⟩ := cpEnd_cases hb draws n <;> rw [h]
      · rw [cpEnds_of_idle (by simp [cpBusy])]; simp [cpComparing, cpBusy]
      · rw [hq] at hn
        exact ih _ (by have := cpToLastCompare_le e rest; simp only; omega)
    · have hb : cpBusy c = false := by simpa using hb
      rw [cpEnd_of_idle hb, cpEnds_of_idle hb, cpComparing, hb]; rfl

/-- After the wait of a CBccc no compare is left at work. -/
theorem cpComparing_cpCompared (s : State) : cpComparing (cpCompared s).cp = false := cpEnds_compared _ _ _ (Nat.le_refl _)

/-- Nor after the wait of a coprocessor load, store or CPop. -/
theorem cpComparing_cpHeld (s : State) : cpComparing (cpHeld s).cp = false := by
  unfold cpHeld
  split
  · exact cpEnds_compared _ _ _ (Nat.le_max_left ..)
  · rename_i h; simp [cpComparing, h]

/-! ## The forms of the coprocessor's state -/

theorem cpAccept_execution {c : CpState} (h : c.mode = .execution) (draws : Nat) (e : QueueEntry) :
    cpAccept draws e c = { c with cq := c.cq ++ [e] } := by simp [cpAccept, h]

/-- A CPop in exception mode: the registers and CSR are the coprocessor's affair, and whether the CPop joins the queue. -/
theorem cpAccept_exception {c : CpState} (h : c.mode = .exception) (draws : Nat) (e : QueueEntry) :
    ∃ (r : CpRegs) (q : List QueueEntry), cpAccept draws e c = { cpWithRegisters c r with cq := q } ∧
      (q = c.cq ∨ q = c.cq ++ [e]) := by
  refine ⟨_, _, by simp only [cpAccept, h]; rfl, ?_⟩
  split
  · exact .inr rfl
  · exact .inl rfl

/-- After a load that met a memory exception the registers it would have written are as they were. -/
theorem cpLoadAborted_eq (dest : List Reg) (s : State) : ∃ c : Vector Word 32,
    cpLoadAborted dest s = withCp s { s.cp with c := c } ∧ ∀ n ∈ dest, c.getD n.toNat 0 = s.cp.c.getD n.toNat 0 := by
  refine ⟨_, rfl, fun n hn => ?_⟩
  simp [Vector.getD, Array.getD, n.isLt, hn]

/-- The first register of LDDC, as a number. -/
theorem cpPair_toNat (n : Reg) :
    (cpPair n).toNat = if Config.cpForcesEven then n.toNat / 2 * 2 else n.toNat := by
  have h : ∀ (n : Reg) (b : Bool),
      (if (n.getLsbD 0 && b) = true then evenReg n else n).toNat = if b then n.toNat / 2 * 2 else n.toNat := by decide
  exact h n _

end Sys2Proof.Machine
end

