-- ==== Sys2Proof/Laws/Data.lean ====
section
/-! SUPPORT. Data as bytes: what a load makes of them and what a store writes. -/
namespace Sys2Proof.Machine

/-! ## What a load makes of a datum (40_load_store.md R102, R103) -/

theorem signedByte_datumAt (m : List Host.Cell) (k : Nat) :
    signedByte (datumAt m k .byte) = (byteAt m k).signExtend 32 := by
  unfold signedByte datumAt; congr 1; apply BitVec.eq_of_getLsbD_eq; intro i hi; simp [hi]; omega

theorem signedHalf_datumAt (m : List Host.Cell) (k : Nat) :
    signedHalf (datumAt m k .half) = (byteAt m k ++ byteAt m (k + 1)).signExtend 32 := by
  unfold signedHalf datumAt; congr 1; apply BitVec.eq_of_getLsbD_eq; intro i hi; simp [hi]; omega

theorem lowWord_byte (m : List Host.Cell) (k : Nat) : lowWord (datumAt m k .byte) = (byteAt m k).setWidth 32 := by
  apply BitVec.eq_of_getLsbD_eq; intro i hi; simp [lowWord, datumAt, hi]; omega

theorem lowWord_half (m : List Host.Cell) (k : Nat) :
    lowWord (datumAt m k .half) = (byteAt m k ++ byteAt m (k + 1)).setWidth 32 := by
  apply BitVec.eq_of_getLsbD_eq; intro i hi; simp [lowWord, datumAt, hi]; omega

theorem lowWord_word (m : List Host.Cell) (k : Nat) :
    lowWord (datumAt m k .word) = byteAt m k ++ byteAt m (k + 1) ++ byteAt m (k + 2) ++ byteAt m (k + 3) := by
  apply BitVec.eq_of_getLsbD_eq; intro i hi; simp [lowWord, datumAt, hi]; intros; omega

theorem highWord_append (x y : Word) : highWord (x ++ y) = x := by
  apply BitVec.eq_of_getLsbD_eq; intro i hi
  simp only [highWord, BitVec.getLsbD_extractLsb', BitVec.getLsbD_append, hi]; simp

theorem lowWord_append (x y : Word) : lowWord (x ++ y) = y := by
  apply BitVec.eq_of_getLsbD_eq; intro i hi
  simp only [lowWord, BitVec.getLsbD_extractLsb', BitVec.getLsbD_append, hi]; simp [hi]

theorem highWord_double (m : List Host.Cell) (k : Nat) :
    highWord (datumAt m k .double) = byteAt m k ++ byteAt m (k + 1) ++ byteAt m (k + 2) ++ byteAt m (k + 3) := by
  rw [datumAt_double, highWord_append]

theorem lowWord_double (m : List Host.Cell) (k : Nat) :
    lowWord (datumAt m k .double) = byteAt m (k + 4) ++ byteAt m (k + 5) ++ byteAt m (k + 6) ++ byteAt m (k + 7) := by
  rw [datumAt_double, lowWord_append]

/-! ## The bytes a store writes (20_memory.md R66) -/

theorem datumBytes_byte (x : Word) : datumBytes (x.setWidth 64) .byte = [x.extractLsb' 0 8] := by
  simp only [datumBytes]
  congr 1

theorem datumBytes_half (x : Word) : datumBytes (x.setWidth 64) .half = [x.extractLsb' 8 8, x.extractLsb' 0 8] := by
  simp only [datumBytes, List.cons.injEq, and_true]
  refine ⟨?_, ?_⟩ <;> (apply BitVec.eq_of_getLsbD_eq; intro i hi; simp [hi]) <;> intros <;> omega

theorem datumBytes_word (x : Word) :
    datumBytes (x.setWidth 64) .word = [x.extractLsb' 24 8, x.extractLsb' 16 8, x.extractLsb' 8 8, x.extractLsb' 0 8] := by
  simp only [datumBytes, List.cons.injEq, and_true]
  refine ⟨?_, ?_, ?_, ?_⟩ <;> (apply BitVec.eq_of_getLsbD_eq; intro i hi; simp [hi]) <;> intros <;> omega

theorem datumBytes_double (x y : Word) :
    datumBytes (x ++ y) .double =
      [x.extractLsb' 24 8, x.extractLsb' 16 8, x.extractLsb' 8 8, x.extractLsb' 0 8,
       y.extractLsb' 24 8, y.extractLsb' 16 8, y.extractLsb' 8 8, y.extractLsb' 0 8] := by
  simp only [datumBytes, List.cons.injEq, and_true]
  refine ⟨?_, ?_, ?_, ?_, ?_, ?_, ?_, ?_⟩ <;>
    (apply BitVec.eq_of_getLsbD_eq; intro i hi
     simp only [BitVec.getLsbD_extractLsb', BitVec.getLsbD_append, hi, decide_true, Bool.true_and]
     interval_cases i <;> simp)

/-! ## The words of the instruction stream -/

theorem decodeBytes_wordBytes (w : Word) : decodeBytes (wordBytes w) = decode w := by
  have h : w.extractLsb' 24 8 ++ w.extractLsb' 16 8 ++ w.extractLsb' 8 8 ++ w.extractLsb' 0 8 = w := by
    apply BitVec.eq_of_getLsbD_eq; intro i hi
    simp only [BitVec.getLsbD_append, BitVec.getLsbD_extractLsb']
    interval_cases i <;> simp
  simp only [decodeBytes, wordBytes, h]

theorem wordBytes_append (a b c d : Byte) : wordBytes (a ++ b ++ c ++ d) = [a, b, c, d] := by
  simp only [wordBytes, List.cons.injEq, and_true]
  refine ⟨?_, ?_, ?_, ?_⟩ <;>
    (apply BitVec.eq_of_getLsbD_eq; intro i hi
     simp only [BitVec.getLsbD_extractLsb', BitVec.getLsbD_append, hi, decide_true, Bool.true_and]
     interval_cases i <;> simp)

/-! ## The word of an MPTAG (22_cmu_registers_faults_reset.md R674) -/

theorem getLsbD_bitsAt (f : Fin 32 → Fin 32) (w : Word) (i : Fin 32) : (bitsAt f w).getLsbD i = w.getLsbD (f i) := by
  simp [bitsAt]

/-- The places of the layout and back. -/
theorem bitsAt_symm (e : Equiv.Perm (Fin 32)) (w : Word) : bitsAt e (bitsAt e.symm w) = w := by
  apply BitVec.eq_of_getLsbD_eq; intro i hi
  rw [getLsbD_bitsAt e _ ⟨i, hi⟩, getLsbD_bitsAt, Equiv.symm_apply_apply]

/-- An entry read and written back, or written and read, is the same entry, whatever the layout is. -/
theorem mptagOfWord_mptagWord (s : State) (t : MpTag) : mptagOfWord (mptagWord s t) = t := by
  unfold mptagOfWord mptagWord
  rw [bitsAt_symm]
  generalize (drawWord s .cmuFlushTag).extractLsb' 0 5 = r
  rcases t with ⟨pa, v, sh, m⟩
  simp only [MpTag.mk.injEq]
  refine ⟨?_, ?_, ?_, ?_⟩
  · apply BitVec.eq_of_getLsbD_eq; intro i hi
    rw [BitVec.getLsbD_extractLsb', BitVec.getLsbD_append]; simp [hi]
  all_goals simp only [BitVec.getLsbD_append, BitVec.getLsbD_ofBool]; simp

end Sys2Proof.Machine
end

