-- ==== Sys2Proof/Laws/Claims.lean ====
section
/-! SUPPORT. The words the statements are written in, in terms of the model's operations: with no delayed write pending each
operation is the statement's word for it. -/
namespace Sys2Proof.Claims
open Sys2Proof.Machine

variable {s : State}

/-! ## Operands -/

theorem operand2_eq (h : Settled s) (o : RegOrImm) : operand2 s o = arg s o := by
  rw [operand2_of_none h.1]; cases o <;> rfl

theorem readReg_eq (h : Settled s) (u : Use) (n : Reg) : readReg s u n = reg s n := readReg_of_none h.1 _ _

theorem addressOf_eq (h : Settled s) (rs1 : Reg) (o : RegOrImm) : addressOf s rs1 o = ea s rs1 o := by
  simp [addressOf, readReg_eq h, operand2_eq h, ea]

theorem alternateAddress_eq (h : Settled s) (rs1 rs2 : Reg) :
    alternateAddress s rs1 rs2 = reg s rs1 + reg s rs2 := by
  simp [alternateAddress, readReg_eq h]

theorem carryWord_eq (h : Settled s) : carryWord s = carry s := by
  simp only [carryWord, carry, usePsr_of_none h.1]; cases s.psr.c <;> rfl

theorem shiftCount_eq (h : Settled s) (n : ShiftCount) : shiftCount s n = shiftBy s n := by
  cases n with
  | reg r => simp [shiftCount, shiftBy, readReg_eq h, BitVec.extractLsb'_toNat]
  | imm v => rfl

theorem useIcc_eq (h : Settled s) (u : Use) : usePsr s Psr.icc u = s.psr.icc := usePsr_of_none h.1 ..

theorem supervisor_eq (h : Settled s) : supervisor s = s.psr.s := usePsr_of_none h.1 ..

theorem fpEnabled_eq_true (h : Settled s) (f : FpOn s) : fpEnabled s = true := by
  simp [fpEnabled_of_none h.1, f.1, f.2]

theorem cpEnabled_eq_true (h : Settled s) (c : CpOn s) : cpEnabled s = true := by
  simp [cpEnabled_of_none h.1, c.1, c.2.1, c.2.2]

/-! ## Next states -/

theorem writeReg_eq (h : Settled s) (u : Use) (n : Reg) (v : Word) :
    writeReg s u n v = { s with regs := withReg s.regs s.psr.cwp n v } := by
  rw [writeReg_of_none h.1, setRegIn_eq]; rfl

theorem writeReg_twice_eq (h : Settled s) (u u' : Use) (n m : Reg) (v w : Word) :
    writeReg (writeReg s u n v) u' m w =
      { s with regs := withReg (withReg s.regs s.psr.cwp n v) s.psr.cwp m w } := by
  rw [writeReg_eq h, writeReg_of_none (s := { s with regs := withReg s.regs s.psr.cwp n v }) h.1, setRegIn_eq]; rfl

theorem advance_eq (s : State) : advance s = done s := rfl

theorem finish_eq (h : Settled s) (rd : Reg) (v : Word) : finish s rd v = result s rd v := by
  simp only [finish, writeReg_eq h]; rfl

theorem setIcc_finish_eq (h : Settled s) (rd : Reg) (v : Word) (i : Icc) : setIcc (finish s rd v) i = flagged s rd v i := by
  rw [finish_eq h]; rfl

theorem enterTrap_entered (h : Settled s) (t : TrapType) : enterTrap s t = entered s t := by
  rw [enterTrap_eq, entered, useTba_of_none h.2.2.1]; rfl

/-- A trap where every use has its one value. -/
theorem raise_eq (h : Settled s) (t : TrapType) : raise s t = trapped s t := by
  rw [raise_of_none h.1, trapped, enterErrorMode, enterTrap_entered h]

theorem branch_eq (hc : s.condDelay = false) {always taken : Bool} (annul : Bool) (d : Int) :
    branch always taken annul d s = branched s always taken annul d := by
  have ht : relativeTarget s (dispWord d) = s.pc + s.plat.ctiBase + BitVec.ofInt 32 (4 * d) := by
    simp [relativeTarget, dispWord, BitVec.ofInt_mul]
  simp only [branch, branched, ht, transfer, hc]
  cases always <;> cases taken <;> cases annul <;> simp

/-! ## Condition codes -/

theorem iccAdd_eq (a b r : Word) : iccAdd a b r = addCodes a b r := rfl

theorem iccSub_eq (a b r : Word) : iccSub a b r = subCodes a b r := rfl

theorem pairCond_test (l : List Nat) (cc : BitVec 2) : (pairCond l).test cc = l.contains cc.toNat := by
  have := cc.isLt
  simp only [pairCond, PairCond.test]
  rcases h : cc.toNat with _ | _ | _ | _ | n <;> first | rfl | omega

/-! ## Memory without a CMU -/

theorem readMem_eq (q : Quiet s) {va : Word} {size : Size} (ha : misaligned va size = false) :
    readMem s (dataAsi s) va size = (s, some (datumAt s.mem (place s va) size)) :=
  readMem_bare q.1 q.2 (bareBank_dataAsi s) ha

theorem writeMem_eq (q : Quiet s) (va : Word) (size : Size) (v : DWord) :
    writeMem s (dataAsi s) va size v = (storeAt s (place s va) size v, true) :=
  writeMem_bare q.1 q.2 (bareBank_dataAsi s) va size v

theorem exchangeMem_eq (q : Quiet s) (va : Word) (size : Size) (v : DWord) :
    exchangeMem s (dataAsi s) va size v =
      (storeAt s (place s va) size v, some (datumAt s.mem (place s va) size)) :=
  exchangeMem_bare q.1 q.2 (bareBank_dataAsi s) va size v

/-- A load that meets a memory exception in one of its bytes. -/
theorem readMem_faultAt (hc : hasCmu s = false) {asi : Asi} {va : Word} {size : Size} (ha : misaligned va size = false)
    (h : FaultAt s asi va size.bytes MemFault.onRead) : readMem s asi va size = (s, none) := readMem_exception hc ha h

/-- A store that meets a memory exception in one of its bytes. -/
theorem writeMem_faultAt (hc : hasCmu s = false) {asi : Asi} {va : Word} {size : Size} (v : DWord)
    (h : FaultAt s asi va size.bytes MemFault.onWrite) : writeMem s asi va size v = (s, false) :=
  writeMem_exception hc v (memException_of_region (by simp) h)

/-- An atomic load-store of which either half meets a memory exception. -/
theorem exchangeMem_faultAt (hc : hasCmu s = false) {asi : Asi} {va : Word} {size : Size} (v : DWord)
    (h : FaultAt s asi va size.bytes MemFault.onRead ∨ FaultAt s asi va size.bytes MemFault.onWrite) :
    exchangeMem s asi va size v = (s, none) := by
  refine exchangeMem_exception hc v ?_
  rcases h with h | h
  · exact memException_of_region (fun f hf => by simp [hf]) h
  · exact memException_of_region (fun f hf => by simp [hf]) h

/-- What follows a store, where it leaves memory and the record of changed code alone. -/
theorem storedAt_of_storeAt {u : State} {k : Nat} {size : Size} {v : DWord} {bs : List Byte} (f : State → State)
    (hf : ∀ m c, f { s with mem := m, codeHist := c } = { u with mem := m, codeHist := c })
    (hb : bs = datumBytes v size) : StoredAt s u (f (storeAt s k size v)) k bs := by
  rw [storeAt_eq, hf]
  refine ⟨rfl, fun j => ?_⟩
  rw [hb, datumBytes_length]; exact byteAt_setDatum ..

theorem fetch_eq (q : Quiet s) (h : s.codeHist = []) : fetch s = (s, some (wordAt s (place s s.pc))) := by
  rw [fetch_bare q.1 q.2 h]; congr 2
  apply BitVec.eq_of_getLsbD_eq; intro i hi; simp [datumAt, wordAt, hi, place]

/-! ## Floating-point and coprocessor registers -/

theorem readF_eq (s : State) (n : Reg) : readF s n = s.f.getD n.toNat 0 := by
  simp [readF, Vector.getD, n.isLt]

theorem writeF_eq (s : State) (n : Reg) (v : Word) : writeF s n v = { s with f := s.f.setIfInBounds n.toNat v } := by
  simp [writeF, vector_set_eq]

theorem writeFd_eq (s : State) (n : Reg) (v : DWord) :
    writeFd s n v = { s with
      f := (s.f.setIfInBounds (n &&& 30).toNat (highWord v)).setIfInBounds (n ||| 1).toNat (lowWord v) } := by
  simp only [writeFd, writeF_eq]; rfl

theorem bits_ofBits (b : BitVec 5) : (FpExc.ofBits b).bits = b := by revert b; decide

theorem or_eq (a b : FpExc) : a.or b = FpExc.ofBits (a.bits ||| b.bits) := by
  rcases a with ⟨_ | _, _ | _, _ | _, _ | _, _ | _⟩ <;> rcases b with ⟨_ | _, _ | _, _ | _, _ | _, _ | _⟩ <;> rfl

theorem meets_eq (a b : FpExc) : a.meets b = decide (a.bits &&& b.bits ≠ 0) := by
  rcases a with ⟨_ | _, _ | _, _ | _, _ | _, _ | _⟩ <;> rcases b with ⟨_ | _, _ | _, _ | _, _ | _, _ | _⟩ <;> rfl

theorem readC_eq (c : CpState) (n : Reg) : readC c n = c.c.getD n.toNat 0 := by
  simp [readC, Vector.getD, n.isLt]

theorem writeC_eq (c : CpState) (n : Reg) (v : Word) : writeC c n v = { c with c := c.c.setIfInBounds n.toNat v } := by
  simp [writeC, vector_set_eq]

/-! ## The coprocessor's queue -/

/-- The end of a CPop at work. -/
theorem cpEnded_cpEnd {c : CpState} (h : cpBusy c = true) (draws i : Nat) : CpEnded c (cpEnd draws i c) := by
  obtain ⟨e, rest, r, hq, hn, hr | hr⟩ := cpEnd_cases h draws i <;> rw [hr]
  · exact ⟨e, rest, ((cpBusy_iff c).1 h).1, hq, .inr ⟨rfl, hq⟩, rfl, hn⟩
  · exact ⟨e, rest, ((cpBusy_iff c).1 h).1, hq, .inl ⟨((cpBusy_iff c).1 h).1, rfl⟩, rfl, hn⟩

theorem cpReached_cpEnds (draws n : Nat) (c : CpState) : CpReached c (cpEnds draws n c) := by
  induction n generalizing c with
  | zero => exact .refl
  | succ n ih =>
    cases h : cpBusy c
    · rw [cpEnds_of_idle h]
    · exact .head (cpEnded_cpEnd h draws n) (ih _)

/-- The wait of a coprocessor load, store or CPop. -/
theorem cpReached_cpHeld (s : State) : CpReached s.cp (cpHeld s).cp := by
  unfold cpHeld; split
  · exact cpReached_cpEnds ..
  · exact .refl

/-- The wait of a CBccc. -/
theorem cpReached_cpCompared (s : State) : CpReached s.cp (cpCompared s).cp := cpReached_cpEnds ..

/-- While a compare halts the IU an agent acts at the boundary. -/
theorem agentTurn_of_iuHalted {s : State} (h : iuHalted s = true) : ∃ a, agentTurn s = some a := by
  have hc : agents s ≠ [] := by
    simp only [iuHalted, cpComparing, Bool.and_eq_true] at h
    simp [agents, h.1, h.2.1]
  refine ⟨_, List.getElem?_eq_getElem ?_⟩
  rw [if_pos h]
  exact Nat.mod_lt _ (List.length_pos_iff.2 hc)

/-- A trap leaves the coprocessor as it is. -/
theorem trapped_withCp (s : State) (c : CpState) (t : TrapType) : trapped (withCp s c) t = { trapped s t with cp := c } := by
  unfold trapped; cases h : s.psr.et <;> simp only [withCp, h] <;> rfl

theorem raise_withCp (h : Settled s) (c : CpState) (t : TrapType) :
    raise (withCp s c) t = { trapped s t with cp := c } := by
  rw [raise_eq (s := withCp s c) h, trapped_withCp]

/-- The cp_exception of a coprocessor that stands at `c`. -/
theorem raiseCpException_eq (h : Settled s) (c : CpState) :
    raiseCpException (withCp s c) = { trapped s 40 with cp := { c with mode := .exception } } :=
  raise_withCp h { c with mode := .exception } ttCpException

end Sys2Proof.Claims
end

