-- ==== Sys2Proof/Laws/PerInstr.lean ====
section
/-! SUPPORT. For every instruction: its encoded word agrees with its row of spec/opcode_table.json, mask and match. -/
namespace Sys2Proof.Laws

/-- Two words of format 3 meet field by field. -/
theorem format3_and (op : BitVec 2) (rd : Reg) (op3 : BitVec 6) (rs1 : Reg) (low : BitVec 14)
    (mop : BitVec 2) (mrd : Reg) (mop3 : BitVec 6) (mlow : BitVec 14) :
    format3 op rd op3 rs1 low &&& format3 mop mrd mop3 0 mlow =
      format3 (op &&& mop) (rd &&& mrd) (op3 &&& mop3) 0 (low &&& mlow) := by
  apply BitVec.eq_of_getLsbD_eq
  intro i _
  simp only [format3, BitVec.getLsbD_and, BitVec.getLsbD_append]
  split_ifs <;> simp

/-- A word of format 2a under a mask, field by field. -/
theorem format2a_and (rd : Reg) (op2 : BitVec 3) (v : BitVec 22) (mrd : Reg) (mop2 : BitVec 3) (mv : BitVec 22) :
    format2a rd op2 v &&& (3#2 ++ mrd ++ mop2 ++ mv : Word) = format2a (rd &&& mrd) (op2 &&& mop2) (v &&& mv) := by
  apply BitVec.eq_of_getLsbD_eq
  intro i _
  simp only [format2a, BitVec.getLsbD_and, BitVec.getLsbD_append]
  split_ifs <;> simp

/-- The mask of a branch keeps op, cond and op2. -/
theorem format2b_and (a : Bool) (c : BitVec 4) (op2 : BitVec 3) (d : Int) :
    format2b a c op2 d &&& (3#2 ++ 0#1 ++ 15#4 ++ 7#3 ++ 0#22 : Word) = 0#2 ++ 0#1 ++ c ++ op2 ++ 0#22 := by
  apply BitVec.eq_of_getLsbD_eq
  intro i _
  have h7 : op2 &&& 7#3 = op2 := BitVec.and_allOnes
  have h15 : c &&& 15#4 = c := BitVec.and_allOnes
  simp only [format2b, BitVec.getLsbD_and, BitVec.getLsbD_append]
  split_ifs <;> simp [← BitVec.getLsbD_and, h7, h15]

/-- An alternate-space form has i = 0. -/
theorem alternate_low (asi : Asi) (rs2 : Reg) : (0#1 ++ asi ++ rs2) &&& 0x2000#14 = 0#14 := by
  rw [show (0x2000#14) = 1#1 ++ 0#8 ++ 0#5 by decide]
  apply BitVec.eq_of_getLsbD_eq
  intro i _
  simp only [BitVec.getLsbD_and, BitVec.getLsbD_append]
  split_ifs <;> simp

/-- The opf of an FPop is the high part of its low 14 bits. -/
theorem fpop_low (opf : BitVec 9) (rs2 : Reg) : (opf ++ rs2) &&& 0x3FE0#14 = opf ++ 0#5 := by
  have h9 : opf &&& 511#9 = opf := BitVec.and_allOnes
  rw [show (0x3FE0#14) = 511#9 ++ 0#5 by decide]
  apply BitVec.eq_of_getLsbD_eq
  intro i _
  simp only [BitVec.getLsbD_and, BitVec.getLsbD_append]
  split_ifs <;> simp [← BitVec.getLsbD_and, h9]
/-- Most rows of format 3: op and op3. -/
theorem row_op3 (op : BitVec 2) (op3 : BitVec 6) (rd rs1 : Reg) (low : BitVec 14) :
    format3 op rd op3 rs1 low &&& 0xC1F80000#32 = format3 op 0 op3 0 0 := by
  rw [show (0xC1F80000#32) = format3 3#2 0#5 0x3f#6 0 0#14 by decide, format3_and]
  rw [show op &&& 3#2 = op from BitVec.and_allOnes, show op3 &&& 0x3f#6 = op3 from BitVec.and_allOnes]
  simp

/-- The alternate-space rows: op, op3 and i. -/
theorem row_alternate (op3 : BitVec 6) (rd rs1 rs2 : Reg) (asi : Asi) :
    format3 3#2 rd op3 rs1 (0#1 ++ asi ++ rs2) &&& 0xC1F82000#32 = format3 3#2 0 op3 0 0 := by
  rw [show (0xC1F82000#32) = format3 3#2 0#5 0x3f#6 0 0x2000#14 by decide, format3_and, alternate_low]
  rw [show op3 &&& 0x3f#6 = op3 from BitVec.and_allOnes]
  simp

/-- The FPop rows: op, op3 and opf. -/
theorem row_fpop (op3 : BitVec 6) (opf : BitVec 9) (rd rs1 rs2 : Reg) :
    format3 2#2 rd op3 rs1 (opf ++ rs2) &&& 0xC1F83FE0#32 = format3 2#2 0 op3 0 (opf ++ 0#5) := by
  rw [show (0xC1F83FE0#32) = format3 3#2 0#5 0x3f#6 0 0x3FE0#14 by decide, format3_and, fpop_low]
  rw [show op3 &&& 0x3f#6 = op3 from BitVec.and_allOnes]
  simp

/-- The Ticc rows: op, cond and op3. -/
theorem row_ticc (cond rs1 : Reg) (low : BitVec 14) :
    format3 2#2 cond 0x3a#6 rs1 low &&& 0xDFF80000#32 = format3 2#2 (cond &&& 0xf#5) 0x3a#6 0 0 := by
  rw [show (0xDFF80000#32) = format3 3#2 0xf#5 0x3f#6 0 0#14 by decide, format3_and]
  simp

/-- The branch rows: op, cond and op2. -/
theorem row_branch (c : BitVec 4) (op2 : BitVec 3) (a : Bool) (d : Int) :
    format2b a c op2 d &&& 0xDFC00000#32 = 0#2 ++ 0#1 ++ c ++ op2 ++ 0#22 := by
  rw [show (0xDFC00000#32) = 3#2 ++ 0#1 ++ 15#4 ++ 7#3 ++ 0#22 by decide, format2b_and]

/-- SETHI and UNIMP: op and op2. -/
theorem row_op2 (op2 : BitVec 3) (rd : Reg) (v : BitVec 22) :
    format2a rd op2 v &&& 0xC1C00000#32 = format2a 0 op2 0 := by
  rw [show (0xC1C00000#32) = 3#2 ++ 0#5 ++ 7#3 ++ 0#22 by decide, format2a_and]
  rw [show op2 &&& 7#3 = op2 from BitVec.and_allOnes]
  simp

/-- CALL: op. -/
theorem row_call (d : BitVec 30) : (1#2 ++ d : Word) &&& 0xC0000000#32 = 0x40000000#32 := by
  apply BitVec.eq_of_getLsbD_eq
  intro i _
  rw [show (0xC0000000#32) = 3#2 ++ 0#30 by decide, show (0x40000000#32) = 1#2 ++ 0#30 by decide]
  simp only [BitVec.getLsbD_and, BitVec.getLsbD_append]
  split_ifs
  · simp
  · rw [← BitVec.getLsbD_and]; rfl

namespace TableWord

/-- The mask and the match of an instruction's row of spec/opcode_table.json. -/
def row : Instr → Word × Word
  | .ldsb _ _ _ => (0xC1F80000#32, 0xC0480000#32)
  | .ldsh _ _ _ => (0xC1F80000#32, 0xC0500000#32)
  | .ldub _ _ _ => (0xC1F80000#32, 0xC0080000#32)
  | .lduh _ _ _ => (0xC1F80000#32, 0xC0100000#32)
  | .ld _ _ _ => (0xC1F80000#32, 0xC0000000#32)
  | .ldd _ _ _ => (0xC1F80000#32, 0xC0180000#32)
  | .ldsba _ _ _ _ => (0xC1F82000#32, 0xC0C80000#32)
  | .ldsha _ _ _ _ => (0xC1F82000#32, 0xC0D00000#32)
  | .lduba _ _ _ _ => (0xC1F82000#32, 0xC0880000#32)
  | .lduha _ _ _ _ => (0xC1F82000#32, 0xC0900000#32)
  | .lda _ _ _ _ => (0xC1F82000#32, 0xC0800000#32)
  | .ldda _ _ _ _ => (0xC1F82000#32, 0xC0980000#32)
  | .stb _ _ _ => (0xC1F80000#32, 0xC0280000#32)
  | .sth _ _ _ => (0xC1F80000#32, 0xC0300000#32)
  | .st _ _ _ => (0xC1F80000#32, 0xC0200000#32)
  | .std _ _ _ => (0xC1F80000#32, 0xC0380000#32)
  | .stba _ _ _ _ => (0xC1F82000#32, 0xC0A80000#32)
  | .stha _ _ _ _ => (0xC1F82000#32, 0xC0B00000#32)
  | .sta _ _ _ _ => (0xC1F82000#32, 0xC0A00000#32)
  | .stda _ _ _ _ => (0xC1F82000#32, 0xC0B80000#32)
  | .ldf _ _ _ => (0xC1F80000#32, 0xC1000000#32)
  | .lddf _ _ _ => (0xC1F80000#32, 0xC1180000#32)
  | .ldfsr _ _ => (0xC1F80000#32, 0xC1080000#32)
  | .stf _ _ _ => (0xC1F80000#32, 0xC1200000#32)
  | .stdf _ _ _ => (0xC1F80000#32, 0xC1380000#32)
  | .stfsr _ _ => (0xC1F80000#32, 0xC1280000#32)
  | .stdfq _ _ => (0xC1F80000#32, 0xC1300000#32)
  | .ldstub _ _ _ => (0xC1F80000#32, 0xC0680000#32)
  | .ldstuba _ _ _ _ => (0xC1F82000#32, 0xC0E80000#32)
  | .swap _ _ _ => (0xC1F80000#32, 0xC0780000#32)
  | .swapa _ _ _ _ => (0xC1F82000#32, 0xC0F80000#32)
  | .ldc _ _ _ => (0xC1F80000#32, 0xC1800000#32)
  | .lddc _ _ _ => (0xC1F80000#32, 0xC1980000#32)
  | .ldcsr _ _ => (0xC1F80000#32, 0xC1880000#32)
  | .stc _ _ _ => (0xC1F80000#32, 0xC1A00000#32)
  | .stdc _ _ _ => (0xC1F80000#32, 0xC1B80000#32)
  | .stcsr _ _ => (0xC1F80000#32, 0xC1A80000#32)
  | .stdcq _ _ => (0xC1F80000#32, 0xC1B00000#32)
  | .add _ _ _ => (0xC1F80000#32, 0x80000000#32)
  | .addcc _ _ _ => (0xC1F80000#32, 0x80800000#32)
  | .addx _ _ _ => (0xC1F80000#32, 0x80400000#32)
  | .addxcc _ _ _ => (0xC1F80000#32, 0x80C00000#32)
  | .sub _ _ _ => (0xC1F80000#32, 0x80200000#32)
  | .subcc _ _ _ => (0xC1F80000#32, 0x80A00000#32)
  | .subx _ _ _ => (0xC1F80000#32, 0x80600000#32)
  | .subxcc _ _ _ => (0xC1F80000#32, 0x80E00000#32)
  | .taddcc _ _ _ => (0xC1F80000#32, 0x81000000#32)
  | .tsubcc _ _ _ => (0xC1F80000#32, 0x81080000#32)
  | .taddcctv _ _ _ => (0xC1F80000#32, 0x81100000#32)
  | .tsubcctv _ _ _ => (0xC1F80000#32, 0x81180000#32)
  | .mulscc _ _ _ => (0xC1F80000#32, 0x81200000#32)
  | .and _ _ _ => (0xC1F80000#32, 0x80080000#32)
  | .andcc _ _ _ => (0xC1F80000#32, 0x80880000#32)
  | .andn _ _ _ => (0xC1F80000#32, 0x80280000#32)
  | .andncc _ _ _ => (0xC1F80000#32, 0x80A80000#32)
  | .or _ _ _ => (0xC1F80000#32, 0x80100000#32)
  | .orcc _ _ _ => (0xC1F80000#32, 0x80900000#32)
  | .orn _ _ _ => (0xC1F80000#32, 0x80300000#32)
  | .orncc _ _ _ => (0xC1F80000#32, 0x80B00000#32)
  | .xor _ _ _ => (0xC1F80000#32, 0x80180000#32)
  | .xorcc _ _ _ => (0xC1F80000#32, 0x80980000#32)
  | .xnor _ _ _ => (0xC1F80000#32, 0x80380000#32)
  | .xnorcc _ _ _ => (0xC1F80000#32, 0x80B80000#32)
  | .sethi _ _ => (0xC1C00000#32, 0x01000000#32)
  | .sll _ _ _ => (0xC1F80000#32, 0x81280000#32)
  | .srl _ _ _ => (0xC1F80000#32, 0x81300000#32)
  | .sra _ _ _ => (0xC1F80000#32, 0x81380000#32)
  | .bn _ _ => (0xDFC00000#32, 0x00800000#32)
  | .be _ _ => (0xDFC00000#32, 0x02800000#32)
  | .ble _ _ => (0xDFC00000#32, 0x04800000#32)
  | .bl _ _ => (0xDFC00000#32, 0x06800000#32)
  | .bleu _ _ => (0xDFC00000#32, 0x08800000#32)
  | .bcs _ _ => (0xDFC00000#32, 0x0A800000#32)
  | .bneg _ _ => (0xDFC00000#32, 0x0C800000#32)
  | .bvs _ _ => (0xDFC00000#32, 0x0E800000#32)
  | .ba _ _ => (0xDFC00000#32, 0x10800000#32)
  | .bne _ _ => (0xDFC00000#32, 0x12800000#32)
  | .bg _ _ => (0xDFC00000#32, 0x14800000#32)
  | .bge _ _ => (0xDFC00000#32, 0x16800000#32)
  | .bgu _ _ => (0xDFC00000#32, 0x18800000#32)
  | .bcc _ _ => (0xDFC00000#32, 0x1A800000#32)
  | .bpos _ _ => (0xDFC00000#32, 0x1C800000#32)
  | .bvc _ _ => (0xDFC00000#32, 0x1E800000#32)
  | .fbn _ _ => (0xDFC00000#32, 0x01800000#32)
  | .fbne _ _ => (0xDFC00000#32, 0x03800000#32)
  | .fblg _ _ => (0xDFC00000#32, 0x05800000#32)
  | .fbul _ _ => (0xDFC00000#32, 0x07800000#32)
  | .fbl _ _ => (0xDFC00000#32, 0x09800000#32)
  | .fbug _ _ => (0xDFC00000#32, 0x0B800000#32)
  | .fbg _ _ => (0xDFC00000#32, 0x0D800000#32)
  | .fbu _ _ => (0xDFC00000#32, 0x0F800000#32)
  | .fba _ _ => (0xDFC00000#32, 0x11800000#32)
  | .fbe _ _ => (0xDFC00000#32, 0x13800000#32)
  | .fbue _ _ => (0xDFC00000#32, 0x15800000#32)
  | .fbge _ _ => (0xDFC00000#32, 0x17800000#32)
  | .fbuge _ _ => (0xDFC00000#32, 0x19800000#32)
  | .fble _ _ => (0xDFC00000#32, 0x1B800000#32)
  | .fbule _ _ => (0xDFC00000#32, 0x1D800000#32)
  | .fbo _ _ => (0xDFC00000#32, 0x1F800000#32)
  | .cbn _ _ => (0xDFC00000#32, 0x01C00000#32)
  | .cb123 _ _ => (0xDFC00000#32, 0x03C00000#32)
  | .cb12 _ _ => (0xDFC00000#32, 0x05C00000#32)
  | .cb13 _ _ => (0xDFC00000#32, 0x07C00000#32)
  | .cb1 _ _ => (0xDFC00000#32, 0x09C00000#32)
  | .cb23 _ _ => (0xDFC00000#32, 0x0BC00000#32)
  | .cb2 _ _ => (0xDFC00000#32, 0x0DC00000#32)
  | .cb3 _ _ => (0xDFC00000#32, 0x0FC00000#32)
  | .cba _ _ => (0xDFC00000#32, 0x11C00000#32)
  | .cb0 _ _ => (0xDFC00000#32, 0x13C00000#32)
  | .cb03 _ _ => (0xDFC00000#32, 0x15C00000#32)
  | .cb02 _ _ => (0xDFC00000#32, 0x17C00000#32)
  | .cb023 _ _ => (0xDFC00000#32, 0x19C00000#32)
  | .cb01 _ _ => (0xDFC00000#32, 0x1BC00000#32)
  | .cb013 _ _ => (0xDFC00000#32, 0x1DC00000#32)
  | .cb012 _ _ => (0xDFC00000#32, 0x1FC00000#32)
  | .call _ => (0xC0000000#32, 0x40000000#32)
  | .jmpl _ _ _ => (0xC1F80000#32, 0x81C00000#32)
  | .rett _ _ => (0xC1F80000#32, 0x81C80000#32)
  | .tn _ _ => (0xDFF80000#32, 0x81D00000#32)
  | .te _ _ => (0xDFF80000#32, 0x83D00000#32)
  | .tle _ _ => (0xDFF80000#32, 0x85D00000#32)
  | .tl _ _ => (0xDFF80000#32, 0x87D00000#32)
  | .tleu _ _ => (0xDFF80000#32, 0x89D00000#32)
  | .tcs _ _ => (0xDFF80000#32, 0x8BD00000#32)
  | .tneg _ _ => (0xDFF80000#32, 0x8DD00000#32)
  | .tvs _ _ => (0xDFF80000#32, 0x8FD00000#32)
  | .ta _ _ => (0xDFF80000#32, 0x91D00000#32)
  | .tne _ _ => (0xDFF80000#32, 0x93D00000#32)
  | .tg _ _ => (0xDFF80000#32, 0x95D00000#32)
  | .tge _ _ => (0xDFF80000#32, 0x97D00000#32)
  | .tgu _ _ => (0xDFF80000#32, 0x99D00000#32)
  | .tcc _ _ => (0xDFF80000#32, 0x9BD00000#32)
  | .tpos _ _ => (0xDFF80000#32, 0x9DD00000#32)
  | .tvc _ _ => (0xDFF80000#32, 0x9FD00000#32)
  | .save _ _ _ => (0xC1F80000#32, 0x81E00000#32)
  | .restore _ _ _ => (0xC1F80000#32, 0x81E80000#32)
  | .rdy _ => (0xC1F80000#32, 0x81400000#32)
  | .rdpsr _ => (0xC1F80000#32, 0x81480000#32)
  | .rdwim _ => (0xC1F80000#32, 0x81500000#32)
  | .rdtbr _ => (0xC1F80000#32, 0x81580000#32)
  | .wry _ _ => (0xC1F80000#32, 0x81800000#32)
  | .wrpsr _ _ => (0xC1F80000#32, 0x81880000#32)
  | .wrwim _ _ => (0xC1F80000#32, 0x81900000#32)
  | .wrtbr _ _ => (0xC1F80000#32, 0x81980000#32)
  | .iflush _ _ => (0xC1F80000#32, 0x81D80000#32)
  | .unimp _ => (0xC1C00000#32, 0x00000000#32)
  | .fmovs _ _ _ => (0xC1F83FE0#32, 0x81A00020#32)
  | .fnegs _ _ _ => (0xC1F83FE0#32, 0x81A000A0#32)
  | .fabss _ _ _ => (0xC1F83FE0#32, 0x81A00120#32)
  | .fsqrts _ _ _ => (0xC1F83FE0#32, 0x81A00520#32)
  | .fsqrtd _ _ _ => (0xC1F83FE0#32, 0x81A00540#32)
  | .fsqrtx _ _ _ => (0xC1F83FE0#32, 0x81A00560#32)
  | .fadds _ _ _ => (0xC1F83FE0#32, 0x81A00820#32)
  | .faddd _ _ _ => (0xC1F83FE0#32, 0x81A00840#32)
  | .faddx _ _ _ => (0xC1F83FE0#32, 0x81A00860#32)
  | .fsubs _ _ _ => (0xC1F83FE0#32, 0x81A008A0#32)
  | .fsubd _ _ _ => (0xC1F83FE0#32, 0x81A008C0#32)
  | .fsubx _ _ _ => (0xC1F83FE0#32, 0x81A008E0#32)
  | .fmuls _ _ _ => (0xC1F83FE0#32, 0x81A00920#32)
  | .fmuld _ _ _ => (0xC1F83FE0#32, 0x81A00940#32)
  | .fmulx _ _ _ => (0xC1F83FE0#32, 0x81A00960#32)
  | .fdivs _ _ _ => (0xC1F83FE0#32, 0x81A009A0#32)
  | .fdivd _ _ _ => (0xC1F83FE0#32, 0x81A009C0#32)
  | .fdivx _ _ _ => (0xC1F83FE0#32, 0x81A009E0#32)
  | .fitos _ _ _ => (0xC1F83FE0#32, 0x81A01880#32)
  | .fdtos _ _ _ => (0xC1F83FE0#32, 0x81A018C0#32)
  | .fxtos _ _ _ => (0xC1F83FE0#32, 0x81A018E0#32)
  | .fitod _ _ _ => (0xC1F83FE0#32, 0x81A01900#32)
  | .fstod _ _ _ => (0xC1F83FE0#32, 0x81A01920#32)
  | .fxtod _ _ _ => (0xC1F83FE0#32, 0x81A01960#32)
  | .fitox _ _ _ => (0xC1F83FE0#32, 0x81A01980#32)
  | .fstox _ _ _ => (0xC1F83FE0#32, 0x81A019A0#32)
  | .fdtox _ _ _ => (0xC1F83FE0#32, 0x81A019C0#32)
  | .fstoi _ _ _ => (0xC1F83FE0#32, 0x81A01A20#32)
  | .fdtoi _ _ _ => (0xC1F83FE0#32, 0x81A01A40#32)
  | .fxtoi _ _ _ => (0xC1F83FE0#32, 0x81A01A60#32)
  | .fcmps _ _ _ => (0xC1F83FE0#32, 0x81A80A20#32)
  | .fcmpd _ _ _ => (0xC1F83FE0#32, 0x81A80A40#32)
  | .fcmpx _ _ _ => (0xC1F83FE0#32, 0x81A80A60#32)
  | .fcmpes _ _ _ => (0xC1F83FE0#32, 0x81A80AA0#32)
  | .fcmped _ _ _ => (0xC1F83FE0#32, 0x81A80AC0#32)
  | .fcmpex _ _ _ => (0xC1F83FE0#32, 0x81A80AE0#32)
  | .cpop1 _ _ _ _ => (0xC1F80000#32, 0x81B00000#32)
  | .cpop2 _ _ _ _ => (0xC1F80000#32, 0x81B80000#32)

/-- The word of an instruction, under its row's mask, is its row's match. -/
def Statement (i : Instr) : Prop := encode i &&& (row i).1 = (row i).2

theorem ldsb (rd rs1 : Reg) (o : RegOrImm) : Statement (.ldsb rd rs1 o) := row_op3 3#2 0x09#6 rd rs1 (encodeOperand2 o)
theorem ldsh (rd rs1 : Reg) (o : RegOrImm) : Statement (.ldsh rd rs1 o) := row_op3 3#2 0x0a#6 rd rs1 (encodeOperand2 o)
theorem ldub (rd rs1 : Reg) (o : RegOrImm) : Statement (.ldub rd rs1 o) := row_op3 3#2 0x01#6 rd rs1 (encodeOperand2 o)
theorem lduh (rd rs1 : Reg) (o : RegOrImm) : Statement (.lduh rd rs1 o) := row_op3 3#2 0x02#6 rd rs1 (encodeOperand2 o)
theorem ld (rd rs1 : Reg) (o : RegOrImm) : Statement (.ld rd rs1 o) := row_op3 3#2 0x00#6 rd rs1 (encodeOperand2 o)
theorem ldd (rd rs1 : Reg) (o : RegOrImm) : Statement (.ldd rd rs1 o) := row_op3 3#2 0x03#6 rd rs1 (encodeOperand2 o)
theorem ldsba (rd rs1 rs2 : Reg) (asi : Asi) : Statement (.ldsba rd rs1 rs2 asi) := row_alternate 0x19#6 rd rs1 rs2 asi
theorem ldsha (rd rs1 rs2 : Reg) (asi : Asi) : Statement (.ldsha rd rs1 rs2 asi) := row_alternate 0x1a#6 rd rs1 rs2 asi
theorem lduba (rd rs1 rs2 : Reg) (asi : Asi) : Statement (.lduba rd rs1 rs2 asi) := row_alternate 0x11#6 rd rs1 rs2 asi
theorem lduha (rd rs1 rs2 : Reg) (asi : Asi) : Statement (.lduha rd rs1 rs2 asi) := row_alternate 0x12#6 rd rs1 rs2 asi
theorem lda (rd rs1 rs2 : Reg) (asi : Asi) : Statement (.lda rd rs1 rs2 asi) := row_alternate 0x10#6 rd rs1 rs2 asi
theorem ldda (rd rs1 rs2 : Reg) (asi : Asi) : Statement (.ldda rd rs1 rs2 asi) := row_alternate 0x13#6 rd rs1 rs2 asi
theorem stb (rd rs1 : Reg) (o : RegOrImm) : Statement (.stb rd rs1 o) := row_op3 3#2 0x05#6 rd rs1 (encodeOperand2 o)
theorem sth (rd rs1 : Reg) (o : RegOrImm) : Statement (.sth rd rs1 o) := row_op3 3#2 0x06#6 rd rs1 (encodeOperand2 o)
theorem st (rd rs1 : Reg) (o : RegOrImm) : Statement (.st rd rs1 o) := row_op3 3#2 0x04#6 rd rs1 (encodeOperand2 o)
theorem std (rd rs1 : Reg) (o : RegOrImm) : Statement (.std rd rs1 o) := row_op3 3#2 0x07#6 rd rs1 (encodeOperand2 o)
theorem stba (rd rs1 rs2 : Reg) (asi : Asi) : Statement (.stba rd rs1 rs2 asi) := row_alternate 0x15#6 rd rs1 rs2 asi
theorem stha (rd rs1 rs2 : Reg) (asi : Asi) : Statement (.stha rd rs1 rs2 asi) := row_alternate 0x16#6 rd rs1 rs2 asi
theorem sta (rd rs1 rs2 : Reg) (asi : Asi) : Statement (.sta rd rs1 rs2 asi) := row_alternate 0x14#6 rd rs1 rs2 asi
theorem stda (rd rs1 rs2 : Reg) (asi : Asi) : Statement (.stda rd rs1 rs2 asi) := row_alternate 0x17#6 rd rs1 rs2 asi
theorem ldf (rd rs1 : Reg) (o : RegOrImm) : Statement (.ldf rd rs1 o) := row_op3 3#2 0x20#6 rd rs1 (encodeOperand2 o)
theorem lddf (rd rs1 : Reg) (o : RegOrImm) : Statement (.lddf rd rs1 o) := row_op3 3#2 0x23#6 rd rs1 (encodeOperand2 o)
theorem ldfsr (rs1 : Reg) (o : RegOrImm) : Statement (.ldfsr rs1 o) := row_op3 3#2 0x21#6 0 rs1 (encodeOperand2 o)
theorem stf (rd rs1 : Reg) (o : RegOrImm) : Statement (.stf rd rs1 o) := row_op3 3#2 0x24#6 rd rs1 (encodeOperand2 o)
theorem stdf (rd rs1 : Reg) (o : RegOrImm) : Statement (.stdf rd rs1 o) := row_op3 3#2 0x27#6 rd rs1 (encodeOperand2 o)
theorem stfsr (rs1 : Reg) (o : RegOrImm) : Statement (.stfsr rs1 o) := row_op3 3#2 0x25#6 0 rs1 (encodeOperand2 o)
theorem stdfq (rs1 : Reg) (o : RegOrImm) : Statement (.stdfq rs1 o) := row_op3 3#2 0x26#6 0 rs1 (encodeOperand2 o)
theorem ldstub (rd rs1 : Reg) (o : RegOrImm) : Statement (.ldstub rd rs1 o) := row_op3 3#2 0x0d#6 rd rs1 (encodeOperand2 o)
theorem ldstuba (rd rs1 rs2 : Reg) (asi : Asi) : Statement (.ldstuba rd rs1 rs2 asi) := row_alternate 0x1d#6 rd rs1 rs2 asi
theorem swap (rd rs1 : Reg) (o : RegOrImm) : Statement (.swap rd rs1 o) := row_op3 3#2 0x0f#6 rd rs1 (encodeOperand2 o)
theorem swapa (rd rs1 rs2 : Reg) (asi : Asi) : Statement (.swapa rd rs1 rs2 asi) := row_alternate 0x1f#6 rd rs1 rs2 asi
theorem ldc (rd rs1 : Reg) (o : RegOrImm) : Statement (.ldc rd rs1 o) := row_op3 3#2 0x30#6 rd rs1 (encodeOperand2 o)
theorem lddc (rd rs1 : Reg) (o : RegOrImm) : Statement (.lddc rd rs1 o) := row_op3 3#2 0x33#6 rd rs1 (encodeOperand2 o)
theorem ldcsr (rs1 : Reg) (o : RegOrImm) : Statement (.ldcsr rs1 o) := row_op3 3#2 0x31#6 0 rs1 (encodeOperand2 o)
theorem stc (rd rs1 : Reg) (o : RegOrImm) : Statement (.stc rd rs1 o) := row_op3 3#2 0x34#6 rd rs1 (encodeOperand2 o)
theorem stdc (rd rs1 : Reg) (o : RegOrImm) : Statement (.stdc rd rs1 o) := row_op3 3#2 0x37#6 rd rs1 (encodeOperand2 o)
theorem stcsr (rs1 : Reg) (o : RegOrImm) : Statement (.stcsr rs1 o) := row_op3 3#2 0x35#6 0 rs1 (encodeOperand2 o)
theorem stdcq (rs1 : Reg) (o : RegOrImm) : Statement (.stdcq rs1 o) := row_op3 3#2 0x36#6 0 rs1 (encodeOperand2 o)
theorem add (rd rs1 : Reg) (o : RegOrImm) : Statement (.add rd rs1 o) := row_op3 2#2 0x00#6 rd rs1 (encodeOperand2 o)
theorem addcc (rd rs1 : Reg) (o : RegOrImm) : Statement (.addcc rd rs1 o) := row_op3 2#2 0x10#6 rd rs1 (encodeOperand2 o)
theorem addx (rd rs1 : Reg) (o : RegOrImm) : Statement (.addx rd rs1 o) := row_op3 2#2 0x08#6 rd rs1 (encodeOperand2 o)
theorem addxcc (rd rs1 : Reg) (o : RegOrImm) : Statement (.addxcc rd rs1 o) := row_op3 2#2 0x18#6 rd rs1 (encodeOperand2 o)
theorem sub (rd rs1 : Reg) (o : RegOrImm) : Statement (.sub rd rs1 o) := row_op3 2#2 0x04#6 rd rs1 (encodeOperand2 o)
theorem subcc (rd rs1 : Reg) (o : RegOrImm) : Statement (.subcc rd rs1 o) := row_op3 2#2 0x14#6 rd rs1 (encodeOperand2 o)
theorem subx (rd rs1 : Reg) (o : RegOrImm) : Statement (.subx rd rs1 o) := row_op3 2#2 0x0c#6 rd rs1 (encodeOperand2 o)
theorem subxcc (rd rs1 : Reg) (o : RegOrImm) : Statement (.subxcc rd rs1 o) := row_op3 2#2 0x1c#6 rd rs1 (encodeOperand2 o)
theorem taddcc (rd rs1 : Reg) (o : RegOrImm) : Statement (.taddcc rd rs1 o) := row_op3 2#2 0x20#6 rd rs1 (encodeOperand2 o)
theorem tsubcc (rd rs1 : Reg) (o : RegOrImm) : Statement (.tsubcc rd rs1 o) := row_op3 2#2 0x21#6 rd rs1 (encodeOperand2 o)
theorem taddcctv (rd rs1 : Reg) (o : RegOrImm) : Statement (.taddcctv rd rs1 o) := row_op3 2#2 0x22#6 rd rs1 (encodeOperand2 o)
theorem tsubcctv (rd rs1 : Reg) (o : RegOrImm) : Statement (.tsubcctv rd rs1 o) := row_op3 2#2 0x23#6 rd rs1 (encodeOperand2 o)
theorem mulscc (rd rs1 : Reg) (o : RegOrImm) : Statement (.mulscc rd rs1 o) := row_op3 2#2 0x24#6 rd rs1 (encodeOperand2 o)
theorem and (rd rs1 : Reg) (o : RegOrImm) : Statement (.and rd rs1 o) := row_op3 2#2 0x01#6 rd rs1 (encodeOperand2 o)
theorem andcc (rd rs1 : Reg) (o : RegOrImm) : Statement (.andcc rd rs1 o) := row_op3 2#2 0x11#6 rd rs1 (encodeOperand2 o)
theorem andn (rd rs1 : Reg) (o : RegOrImm) : Statement (.andn rd rs1 o) := row_op3 2#2 0x05#6 rd rs1 (encodeOperand2 o)
theorem andncc (rd rs1 : Reg) (o : RegOrImm) : Statement (.andncc rd rs1 o) := row_op3 2#2 0x15#6 rd rs1 (encodeOperand2 o)
theorem or (rd rs1 : Reg) (o : RegOrImm) : Statement (.or rd rs1 o) := row_op3 2#2 0x02#6 rd rs1 (encodeOperand2 o)
theorem orcc (rd rs1 : Reg) (o : RegOrImm) : Statement (.orcc rd rs1 o) := row_op3 2#2 0x12#6 rd rs1 (encodeOperand2 o)
theorem orn (rd rs1 : Reg) (o : RegOrImm) : Statement (.orn rd rs1 o) := row_op3 2#2 0x06#6 rd rs1 (encodeOperand2 o)
theorem orncc (rd rs1 : Reg) (o : RegOrImm) : Statement (.orncc rd rs1 o) := row_op3 2#2 0x16#6 rd rs1 (encodeOperand2 o)
theorem xor (rd rs1 : Reg) (o : RegOrImm) : Statement (.xor rd rs1 o) := row_op3 2#2 0x03#6 rd rs1 (encodeOperand2 o)
theorem xorcc (rd rs1 : Reg) (o : RegOrImm) : Statement (.xorcc rd rs1 o) := row_op3 2#2 0x13#6 rd rs1 (encodeOperand2 o)
theorem xnor (rd rs1 : Reg) (o : RegOrImm) : Statement (.xnor rd rs1 o) := row_op3 2#2 0x07#6 rd rs1 (encodeOperand2 o)
theorem xnorcc (rd rs1 : Reg) (o : RegOrImm) : Statement (.xnorcc rd rs1 o) := row_op3 2#2 0x17#6 rd rs1 (encodeOperand2 o)
theorem sethi (rd : Reg) (v : BitVec 22) : Statement (.sethi rd v) := row_op2 4#3 rd v
theorem sll (rd rs1 : Reg) (c : ShiftCount) : Statement (.sll rd rs1 c) := row_op3 2#2 0x25#6 rd rs1 (encodeCount c)
theorem srl (rd rs1 : Reg) (c : ShiftCount) : Statement (.srl rd rs1 c) := row_op3 2#2 0x26#6 rd rs1 (encodeCount c)
theorem sra (rd rs1 : Reg) (c : ShiftCount) : Statement (.sra rd rs1 c) := row_op3 2#2 0x27#6 rd rs1 (encodeCount c)
theorem bn (a : Bool) (d : Int) : Statement (.bn a d) := row_branch 0#4 2#3 a d
theorem be (a : Bool) (d : Int) : Statement (.be a d) := row_branch 1#4 2#3 a d
theorem ble (a : Bool) (d : Int) : Statement (.ble a d) := row_branch 2#4 2#3 a d
theorem bl (a : Bool) (d : Int) : Statement (.bl a d) := row_branch 3#4 2#3 a d
theorem bleu (a : Bool) (d : Int) : Statement (.bleu a d) := row_branch 4#4 2#3 a d
theorem bcs (a : Bool) (d : Int) : Statement (.bcs a d) := row_branch 5#4 2#3 a d
theorem bneg (a : Bool) (d : Int) : Statement (.bneg a d) := row_branch 6#4 2#3 a d
theorem bvs (a : Bool) (d : Int) : Statement (.bvs a d) := row_branch 7#4 2#3 a d
theorem ba (a : Bool) (d : Int) : Statement (.ba a d) := row_branch 8#4 2#3 a d
theorem bne (a : Bool) (d : Int) : Statement (.bne a d) := row_branch 9#4 2#3 a d
theorem bg (a : Bool) (d : Int) : Statement (.bg a d) := row_branch 10#4 2#3 a d
theorem bge (a : Bool) (d : Int) : Statement (.bge a d) := row_branch 11#4 2#3 a d
theorem bgu (a : Bool) (d : Int) : Statement (.bgu a d) := row_branch 12#4 2#3 a d
theorem bcc (a : Bool) (d : Int) : Statement (.bcc a d) := row_branch 13#4 2#3 a d
theorem bpos (a : Bool) (d : Int) : Statement (.bpos a d) := row_branch 14#4 2#3 a d
theorem bvc (a : Bool) (d : Int) : Statement (.bvc a d) := row_branch 15#4 2#3 a d
theorem fbn (a : Bool) (d : Int) : Statement (.fbn a d) := row_branch 0#4 6#3 a d
theorem fbne (a : Bool) (d : Int) : Statement (.fbne a d) := row_branch 1#4 6#3 a d
theorem fblg (a : Bool) (d : Int) : Statement (.fblg a d) := row_branch 2#4 6#3 a d
theorem fbul (a : Bool) (d : Int) : Statement (.fbul a d) := row_branch 3#4 6#3 a d
theorem fbl (a : Bool) (d : Int) : Statement (.fbl a d) := row_branch 4#4 6#3 a d
theorem fbug (a : Bool) (d : Int) : Statement (.fbug a d) := row_branch 5#4 6#3 a d
theorem fbg (a : Bool) (d : Int) : Statement (.fbg a d) := row_branch 6#4 6#3 a d
theorem fbu (a : Bool) (d : Int) : Statement (.fbu a d) := row_branch 7#4 6#3 a d
theorem fba (a : Bool) (d : Int) : Statement (.fba a d) := row_branch 8#4 6#3 a d
theorem fbe (a : Bool) (d : Int) : Statement (.fbe a d) := row_branch 9#4 6#3 a d
theorem fbue (a : Bool) (d : Int) : Statement (.fbue a d) := row_branch 10#4 6#3 a d
theorem fbge (a : Bool) (d : Int) : Statement (.fbge a d) := row_branch 11#4 6#3 a d
theorem fbuge (a : Bool) (d : Int) : Statement (.fbuge a d) := row_branch 12#4 6#3 a d
theorem fble (a : Bool) (d : Int) : Statement (.fble a d) := row_branch 13#4 6#3 a d
theorem fbule (a : Bool) (d : Int) : Statement (.fbule a d) := row_branch 14#4 6#3 a d
theorem fbo (a : Bool) (d : Int) : Statement (.fbo a d) := row_branch 15#4 6#3 a d
theorem cbn (a : Bool) (d : Int) : Statement (.cbn a d) := row_branch 0#4 7#3 a d
theorem cb123 (a : Bool) (d : Int) : Statement (.cb123 a d) := row_branch 1#4 7#3 a d
theorem cb12 (a : Bool) (d : Int) : Statement (.cb12 a d) := row_branch 2#4 7#3 a d
theorem cb13 (a : Bool) (d : Int) : Statement (.cb13 a d) := row_branch 3#4 7#3 a d
theorem cb1 (a : Bool) (d : Int) : Statement (.cb1 a d) := row_branch 4#4 7#3 a d
theorem cb23 (a : Bool) (d : Int) : Statement (.cb23 a d) := row_branch 5#4 7#3 a d
theorem cb2 (a : Bool) (d : Int) : Statement (.cb2 a d) := row_branch 6#4 7#3 a d
theorem cb3 (a : Bool) (d : Int) : Statement (.cb3 a d) := row_branch 7#4 7#3 a d
theorem cba (a : Bool) (d : Int) : Statement (.cba a d) := row_branch 8#4 7#3 a d
theorem cb0 (a : Bool) (d : Int) : Statement (.cb0 a d) := row_branch 9#4 7#3 a d
theorem cb03 (a : Bool) (d : Int) : Statement (.cb03 a d) := row_branch 10#4 7#3 a d
theorem cb02 (a : Bool) (d : Int) : Statement (.cb02 a d) := row_branch 11#4 7#3 a d
theorem cb023 (a : Bool) (d : Int) : Statement (.cb023 a d) := row_branch 12#4 7#3 a d
theorem cb01 (a : Bool) (d : Int) : Statement (.cb01 a d) := row_branch 13#4 7#3 a d
theorem cb013 (a : Bool) (d : Int) : Statement (.cb013 a d) := row_branch 14#4 7#3 a d
theorem cb012 (a : Bool) (d : Int) : Statement (.cb012 a d) := row_branch 15#4 7#3 a d
theorem call (d : BitVec 30) : Statement (.call d) := row_call d
theorem jmpl (rd rs1 : Reg) (o : RegOrImm) : Statement (.jmpl rd rs1 o) := row_op3 2#2 0x38#6 rd rs1 (encodeOperand2 o)
theorem rett (rs1 : Reg) (o : RegOrImm) : Statement (.rett rs1 o) := row_op3 2#2 0x39#6 0 rs1 (encodeOperand2 o)
theorem tn (rs1 : Reg) (o : RegOrImm) : Statement (.tn rs1 o) := row_ticc 0#5 rs1 (encodeOperand2 o)
theorem te (rs1 : Reg) (o : RegOrImm) : Statement (.te rs1 o) := row_ticc 1#5 rs1 (encodeOperand2 o)
theorem tle (rs1 : Reg) (o : RegOrImm) : Statement (.tle rs1 o) := row_ticc 2#5 rs1 (encodeOperand2 o)
theorem tl (rs1 : Reg) (o : RegOrImm) : Statement (.tl rs1 o) := row_ticc 3#5 rs1 (encodeOperand2 o)
theorem tleu (rs1 : Reg) (o : RegOrImm) : Statement (.tleu rs1 o) := row_ticc 4#5 rs1 (encodeOperand2 o)
theorem tcs (rs1 : Reg) (o : RegOrImm) : Statement (.tcs rs1 o) := row_ticc 5#5 rs1 (encodeOperand2 o)
theorem tneg (rs1 : Reg) (o : RegOrImm) : Statement (.tneg rs1 o) := row_ticc 6#5 rs1 (encodeOperand2 o)
theorem tvs (rs1 : Reg) (o : RegOrImm) : Statement (.tvs rs1 o) := row_ticc 7#5 rs1 (encodeOperand2 o)
theorem ta (rs1 : Reg) (o : RegOrImm) : Statement (.ta rs1 o) := row_ticc 8#5 rs1 (encodeOperand2 o)
theorem tne (rs1 : Reg) (o : RegOrImm) : Statement (.tne rs1 o) := row_ticc 9#5 rs1 (encodeOperand2 o)
theorem tg (rs1 : Reg) (o : RegOrImm) : Statement (.tg rs1 o) := row_ticc 10#5 rs1 (encodeOperand2 o)
theorem tge (rs1 : Reg) (o : RegOrImm) : Statement (.tge rs1 o) := row_ticc 11#5 rs1 (encodeOperand2 o)
theorem tgu (rs1 : Reg) (o : RegOrImm) : Statement (.tgu rs1 o) := row_ticc 12#5 rs1 (encodeOperand2 o)
theorem tcc (rs1 : Reg) (o : RegOrImm) : Statement (.tcc rs1 o) := row_ticc 13#5 rs1 (encodeOperand2 o)
theorem tpos (rs1 : Reg) (o : RegOrImm) : Statement (.tpos rs1 o) := row_ticc 14#5 rs1 (encodeOperand2 o)
theorem tvc (rs1 : Reg) (o : RegOrImm) : Statement (.tvc rs1 o) := row_ticc 15#5 rs1 (encodeOperand2 o)
theorem save (rd rs1 : Reg) (o : RegOrImm) : Statement (.save rd rs1 o) := row_op3 2#2 0x3c#6 rd rs1 (encodeOperand2 o)
theorem restore (rd rs1 : Reg) (o : RegOrImm) : Statement (.restore rd rs1 o) := row_op3 2#2 0x3d#6 rd rs1 (encodeOperand2 o)
theorem rdy (rd : Reg) : Statement (.rdy rd) := row_op3 2#2 0x28#6 rd 0 0
theorem rdpsr (rd : Reg) : Statement (.rdpsr rd) := row_op3 2#2 0x29#6 rd 0 0
theorem rdwim (rd : Reg) : Statement (.rdwim rd) := row_op3 2#2 0x2a#6 rd 0 0
theorem rdtbr (rd : Reg) : Statement (.rdtbr rd) := row_op3 2#2 0x2b#6 rd 0 0
theorem wry (rs1 : Reg) (o : RegOrImm) : Statement (.wry rs1 o) := row_op3 2#2 0x30#6 0 rs1 (encodeOperand2 o)
theorem wrpsr (rs1 : Reg) (o : RegOrImm) : Statement (.wrpsr rs1 o) := row_op3 2#2 0x31#6 0 rs1 (encodeOperand2 o)
theorem wrwim (rs1 : Reg) (o : RegOrImm) : Statement (.wrwim rs1 o) := row_op3 2#2 0x32#6 0 rs1 (encodeOperand2 o)
theorem wrtbr (rs1 : Reg) (o : RegOrImm) : Statement (.wrtbr rs1 o) := row_op3 2#2 0x33#6 0 rs1 (encodeOperand2 o)
theorem iflush (rs1 : Reg) (o : RegOrImm) : Statement (.iflush rs1 o) := row_op3 2#2 0x3b#6 0 rs1 (encodeOperand2 o)
theorem unimp (v : BitVec 22) : Statement (.unimp v) := row_op2 0#3 0 v
theorem fmovs (rd rs1 rs2 : Reg) : Statement (.fmovs rd rs1 rs2) := row_fpop 0x34#6 0x001#9 rd rs1 rs2
theorem fnegs (rd rs1 rs2 : Reg) : Statement (.fnegs rd rs1 rs2) := row_fpop 0x34#6 0x005#9 rd rs1 rs2
theorem fabss (rd rs1 rs2 : Reg) : Statement (.fabss rd rs1 rs2) := row_fpop 0x34#6 0x009#9 rd rs1 rs2
theorem fsqrts (rd rs1 rs2 : Reg) : Statement (.fsqrts rd rs1 rs2) := row_fpop 0x34#6 0x029#9 rd rs1 rs2
theorem fsqrtd (rd rs1 rs2 : Reg) : Statement (.fsqrtd rd rs1 rs2) := row_fpop 0x34#6 0x02a#9 rd rs1 rs2
theorem fsqrtx (rd rs1 rs2 : Reg) : Statement (.fsqrtx rd rs1 rs2) := row_fpop 0x34#6 0x02b#9 rd rs1 rs2
theorem fadds (rd rs1 rs2 : Reg) : Statement (.fadds rd rs1 rs2) := row_fpop 0x34#6 0x041#9 rd rs1 rs2
theorem faddd (rd rs1 rs2 : Reg) : Statement (.faddd rd rs1 rs2) := row_fpop 0x34#6 0x042#9 rd rs1 rs2
theorem faddx (rd rs1 rs2 : Reg) : Statement (.faddx rd rs1 rs2) := row_fpop 0x34#6 0x043#9 rd rs1 rs2
theorem fsubs (rd rs1 rs2 : Reg) : Statement (.fsubs rd rs1 rs2) := row_fpop 0x34#6 0x045#9 rd rs1 rs2
theorem fsubd (rd rs1 rs2 : Reg) : Statement (.fsubd rd rs1 rs2) := row_fpop 0x34#6 0x046#9 rd rs1 rs2
theorem fsubx (rd rs1 rs2 : Reg) : Statement (.fsubx rd rs1 rs2) := row_fpop 0x34#6 0x047#9 rd rs1 rs2
theorem fmuls (rd rs1 rs2 : Reg) : Statement (.fmuls rd rs1 rs2) := row_fpop 0x34#6 0x049#9 rd rs1 rs2
theorem fmuld (rd rs1 rs2 : Reg) : Statement (.fmuld rd rs1 rs2) := row_fpop 0x34#6 0x04a#9 rd rs1 rs2
theorem fmulx (rd rs1 rs2 : Reg) : Statement (.fmulx rd rs1 rs2) := row_fpop 0x34#6 0x04b#9 rd rs1 rs2
theorem fdivs (rd rs1 rs2 : Reg) : Statement (.fdivs rd rs1 rs2) := row_fpop 0x34#6 0x04d#9 rd rs1 rs2
theorem fdivd (rd rs1 rs2 : Reg) : Statement (.fdivd rd rs1 rs2) := row_fpop 0x34#6 0x04e#9 rd rs1 rs2
theorem fdivx (rd rs1 rs2 : Reg) : Statement (.fdivx rd rs1 rs2) := row_fpop 0x34#6 0x04f#9 rd rs1 rs2
theorem fitos (rd rs1 rs2 : Reg) : Statement (.fitos rd rs1 rs2) := row_fpop 0x34#6 0x0c4#9 rd rs1 rs2
theorem fdtos (rd rs1 rs2 : Reg) : Statement (.fdtos rd rs1 rs2) := row_fpop 0x34#6 0x0c6#9 rd rs1 rs2
theorem fxtos (rd rs1 rs2 : Reg) : Statement (.fxtos rd rs1 rs2) := row_fpop 0x34#6 0x0c7#9 rd rs1 rs2
theorem fitod (rd rs1 rs2 : Reg) : Statement (.fitod rd rs1 rs2) := row_fpop 0x34#6 0x0c8#9 rd rs1 rs2
theorem fstod (rd rs1 rs2 : Reg) : Statement (.fstod rd rs1 rs2) := row_fpop 0x34#6 0x0c9#9 rd rs1 rs2
theorem fxtod (rd rs1 rs2 : Reg) : Statement (.fxtod rd rs1 rs2) := row_fpop 0x34#6 0x0cb#9 rd rs1 rs2
theorem fitox (rd rs1 rs2 : Reg) : Statement (.fitox rd rs1 rs2) := row_fpop 0x34#6 0x0cc#9 rd rs1 rs2
theorem fstox (rd rs1 rs2 : Reg) : Statement (.fstox rd rs1 rs2) := row_fpop 0x34#6 0x0cd#9 rd rs1 rs2
theorem fdtox (rd rs1 rs2 : Reg) : Statement (.fdtox rd rs1 rs2) := row_fpop 0x34#6 0x0ce#9 rd rs1 rs2
theorem fstoi (rd rs1 rs2 : Reg) : Statement (.fstoi rd rs1 rs2) := row_fpop 0x34#6 0x0d1#9 rd rs1 rs2
theorem fdtoi (rd rs1 rs2 : Reg) : Statement (.fdtoi rd rs1 rs2) := row_fpop 0x34#6 0x0d2#9 rd rs1 rs2
theorem fxtoi (rd rs1 rs2 : Reg) : Statement (.fxtoi rd rs1 rs2) := row_fpop 0x34#6 0x0d3#9 rd rs1 rs2
theorem fcmps (rd rs1 rs2 : Reg) : Statement (.fcmps rd rs1 rs2) := row_fpop 0x35#6 0x051#9 rd rs1 rs2
theorem fcmpd (rd rs1 rs2 : Reg) : Statement (.fcmpd rd rs1 rs2) := row_fpop 0x35#6 0x052#9 rd rs1 rs2
theorem fcmpx (rd rs1 rs2 : Reg) : Statement (.fcmpx rd rs1 rs2) := row_fpop 0x35#6 0x053#9 rd rs1 rs2
theorem fcmpes (rd rs1 rs2 : Reg) : Statement (.fcmpes rd rs1 rs2) := row_fpop 0x35#6 0x055#9 rd rs1 rs2
theorem fcmped (rd rs1 rs2 : Reg) : Statement (.fcmped rd rs1 rs2) := row_fpop 0x35#6 0x056#9 rd rs1 rs2
theorem fcmpex (rd rs1 rs2 : Reg) : Statement (.fcmpex rd rs1 rs2) := row_fpop 0x35#6 0x057#9 rd rs1 rs2
theorem cpop1 (rd rs1 : Reg) (opc : BitVec 9) (rs2 : Reg) : Statement (.cpop1 rd rs1 opc rs2) := row_op3 2#2 0x36#6 rd rs1 (opc ++ rs2)
theorem cpop2 (rd rs1 : Reg) (opc : BitVec 9) (rs2 : Reg) : Statement (.cpop2 rd rs1 opc rs2) := row_op3 2#2 0x37#6 rd rs1 (opc ++ rs2)

end TableWord
end Sys2Proof.Laws
end

