-- ==== Sys2Proof/Tests/Slice0.lean ====
section
/-! SUPPORT. Tests: ill-formed terms, decoding of words written out from the spec's encodings, single steps with the values of
spec/95_test_vectors.md, and for every statement with hypotheses a state that meets them. -/
namespace Sys2Proof.Tests
open Sys2Proof.Machine Sys2Proof.Claims

-- One theorem after the other: elaborated at once, the kernel evaluations would each hold a thread.
set_option Elab.async false

/-! ## States -/

/-- The start of the single-instruction vectors (95_test_vectors.md section 1). -/
def start : State :=
  { State.reset with
    pc := 0x1000
    npc := 0x1004
    psr := { State.reset.psr with et := true, ef := true }
    tbr := { tba := 0x00004, tt := 0 } }

/-- The same in user mode. -/
def user : State := { start with psr := { start.psr with s := false } }

/-- The same with a coprocessor enabled. -/
def enabledCp : State := { start with psr := { start.psr with ec := true }, plat := { start.plat with cpPresent := true } }

/-- The same behind a CY7C604 with address translation on, context 3, its context table at 0x400000. -/
def withMmu : State :=
  { start with plat := { start.plat with cmu := .cy7c604 }, cmu := { start.cmu with scr := 1, ctpr := 0x40000, cxr := 3 } }

/-- Registers of the current window. -/
def withR (s : State) (l : List (Reg × Word)) : State := l.foldl (fun s p => setRegIn s s.psr.cwp p.1 p.2) s

/-- Words of memory from a key upwards. -/
def withM (s : State) (k : Nat) (ws : List Word) : State := { s with mem := setBytes s.mem k (ws.flatMap wordBytes) }

/-- The instruction of a word, run once. -/
def run (w : Word) (s : State) : Option State :=
  match decode w with
  | .reject _ => none
  | .instr i =>
    match exec i s with
    | .next t => some t
    | _ => none

/-- A next state with a property. -/
def holds (o : Option State) (p : State → Bool) : Bool :=
  match o with
  | some t => p t
  | none => false

/-- The four condition codes as the bits N Z V C. -/
def icc (s : State) : Nat :=
  (BitVec.ofBool s.psr.n ++ BitVec.ofBool s.psr.z ++ BitVec.ofBool s.psr.v ++ BitVec.ofBool s.psr.c).toNat

/-- Whether an instruction answers a next state. -/
def completes (i : Instr) (s : State) : Bool :=
  match exec i s with
  | .next _ => true
  | _ => false

/-! ## Well-formedness: each check refuses a term just outside its range -/

theorem test_simm13_refused : Instr.wellFormed (.add 1 2 (.imm 4096)) = false ∧
    Instr.wellFormed (.add 1 2 (.imm (-4097))) = false := by decide

theorem test_simm13_accepted : Instr.wellFormed (.add 1 2 (.imm 4095)) = true ∧
    Instr.wellFormed (.add 1 2 (.imm (-4096))) = true := by decide

theorem test_disp22_refused : Instr.wellFormed (.bne true 2097152) = false ∧
    Instr.wellFormed (.fbu false (-2097153)) = false ∧ Instr.wellFormed (.cb12 false 2097152) = false := by decide

theorem test_disp22_accepted : Instr.wellFormed (.bne true 2097151) = true ∧
    Instr.wellFormed (.fbu false (-2097152)) = true := by decide

/-! ## Decoding: every row of the table, each word its match value of spec/opcode_table.json with rd = 10, rs1 = 8, rs2 = 9 and
constants at the ends of their ranges put into the fields of 30_encoding.md R81 -/

/-- Integer loads, stores and atomics (30_encoding.md R90). -/
theorem test_decode_load_store : ∀ p ∈ (
    [(0xD44A3000#32, .ldsb 10 8 (.imm (-4096))), (0xD4520009#32, .ldsh 10 8 (.reg 9)),
     (0xD40A3002#32, .ldub 10 8 (.imm (-4094))), (0xD4120009#32, .lduh 10 8 (.reg 9)),
     (0xD4023004#32, .ld 10 8 (.imm (-4092))), (0xD41A0009#32, .ldd 10 8 (.reg 9)),
     (0xD42A3006#32, .stb 10 8 (.imm (-4090))), (0xD4320009#32, .sth 10 8 (.reg 9)),
     (0xD4223008#32, .st 10 8 (.imm (-4088))), (0xD43A0009#32, .std 10 8 (.reg 9)),
     (0xD46A300A#32, .ldstub 10 8 (.imm (-4086))), (0xD47A0009#32, .swap 10 8 (.reg 9))] : List (Word × Instr)),
    decodeBytes (wordBytes p.1) = .instr p.2 := by decide +kernel

/-- The alternate-space forms (R90). -/
theorem test_decode_alternate : ∀ p ∈ (
    [(0xD4CA14A9#32, .ldsba 10 8 9 0xA5), (0xD4D214A9#32, .ldsha 10 8 9 0xA5), (0xD48A14A9#32, .lduba 10 8 9 0xA5),
     (0xD49214A9#32, .lduha 10 8 9 0xA5), (0xD48214A9#32, .lda 10 8 9 0xA5), (0xD49A14A9#32, .ldda 10 8 9 0xA5),
     (0xD4AA14A9#32, .stba 10 8 9 0xA5), (0xD4B214A9#32, .stha 10 8 9 0xA5), (0xD4A214A9#32, .sta 10 8 9 0xA5),
     (0xD4BA14A9#32, .stda 10 8 9 0xA5), (0xD4EA14A9#32, .ldstuba 10 8 9 0xA5), (0xD4FA14A9#32, .swapa 10 8 9 0xA5)] : List (Word × Instr)),
    decodeBytes (wordBytes p.1) = .instr p.2 := by decide +kernel

/-- Floating-point loads and stores (R90). -/
theorem test_decode_fp_load_store : ∀ p ∈ (
    [(0xD5023000#32, .ldf 10 8 (.imm (-4096))), (0xD51A0009#32, .lddf 10 8 (.reg 9)),
     (0xC10A3002#32, .ldfsr 8 (.imm (-4094))), (0xD5220009#32, .stf 10 8 (.reg 9)),
     (0xD53A3004#32, .stdf 10 8 (.imm (-4092))), (0xC12A0009#32, .stfsr 8 (.reg 9)),
     (0xC1323006#32, .stdfq 8 (.imm (-4090)))] : List (Word × Instr)),
    decodeBytes (wordBytes p.1) = .instr p.2 := by decide +kernel

/-- Coprocessor loads and stores (R90). -/
theorem test_decode_cp_load_store : ∀ p ∈ (
    [(0xD5823000#32, .ldc 10 8 (.imm (-4096))), (0xD59A0009#32, .lddc 10 8 (.reg 9)),
     (0xC18A3002#32, .ldcsr 8 (.imm (-4094))), (0xD5A20009#32, .stc 10 8 (.reg 9)),
     (0xD5BA3004#32, .stdc 10 8 (.imm (-4092))), (0xC1AA0009#32, .stcsr 8 (.reg 9)),
     (0xC1B23006#32, .stdcq 8 (.imm (-4090)))] : List (Word × Instr)),
    decodeBytes (wordBytes p.1) = .instr p.2 := by decide +kernel

/-- Arithmetic, logic, shifts (R89). -/
theorem test_decode_arithmetic : ∀ p ∈ (
    [(0x94023000#32, .add 10 8 (.imm (-4096))), (0x94820009#32, .addcc 10 8 (.reg 9)),
     (0x94423002#32, .addx 10 8 (.imm (-4094))), (0x94C20009#32, .addxcc 10 8 (.reg 9)),
     (0x94223004#32, .sub 10 8 (.imm (-4092))), (0x94A20009#32, .subcc 10 8 (.reg 9)),
     (0x94623006#32, .subx 10 8 (.imm (-4090))), (0x94E20009#32, .subxcc 10 8 (.reg 9)),
     (0x95023008#32, .taddcc 10 8 (.imm (-4088))), (0x950A0009#32, .tsubcc 10 8 (.reg 9)),
     (0x9512300A#32, .taddcctv 10 8 (.imm (-4086))), (0x951A0009#32, .tsubcctv 10 8 (.reg 9)),
     (0x9522300C#32, .mulscc 10 8 (.imm (-4084))), (0x940A0009#32, .and 10 8 (.reg 9)),
     (0x948A300E#32, .andcc 10 8 (.imm (-4082))), (0x942A0009#32, .andn 10 8 (.reg 9)),
     (0x94AA3010#32, .andncc 10 8 (.imm (-4080))), (0x94120009#32, .or 10 8 (.reg 9)),
     (0x94923012#32, .orcc 10 8 (.imm (-4078))), (0x94320009#32, .orn 10 8 (.reg 9)),
     (0x94B23014#32, .orncc 10 8 (.imm (-4076))), (0x941A0009#32, .xor 10 8 (.reg 9)),
     (0x949A3016#32, .xorcc 10 8 (.imm (-4074))), (0x943A0009#32, .xnor 10 8 (.reg 9)),
     (0x94BA3018#32, .xnorcc 10 8 (.imm (-4072))), (0x952A0009#32, .sll 10 8 (.reg 9)),
     (0x9532201F#32, .srl 10 8 (.imm 31)), (0x953A0009#32, .sra 10 8 (.reg 9))] : List (Word × Instr)),
    decodeBytes (wordBytes p.1) = .instr p.2 := by decide +kernel

/-- Bicc by cond (R93). -/
theorem test_decode_bicc : ∀ p ∈ (
    [(0x20A00000#32, .bn true (-2097152)), (0x029FFFFE#32, .be false (2097150)), (0x24A00002#32, .ble true (-2097150)),
     (0x069FFFFC#32, .bl false (2097148)), (0x28A00004#32, .bleu true (-2097148)), (0x0A9FFFFA#32, .bcs false (2097146)),
     (0x2CA00006#32, .bneg true (-2097146)), (0x0E9FFFF8#32, .bvs false (2097144)), (0x30A00008#32, .ba true (-2097144)),
     (0x129FFFF6#32, .bne false (2097142)), (0x34A0000A#32, .bg true (-2097142)), (0x169FFFF4#32, .bge false (2097140)),
     (0x38A0000C#32, .bgu true (-2097140)), (0x1A9FFFF2#32, .bcc false (2097138)),
     (0x3CA0000E#32, .bpos true (-2097138)), (0x1E9FFFF0#32, .bvc false (2097136))] : List (Word × Instr)),
    decodeBytes (wordBytes p.1) = .instr p.2 := by decide +kernel

/-- FBfcc by cond (R93). -/
theorem test_decode_fbfcc : ∀ p ∈ (
    [(0x21A00000#32, .fbn true (-2097152)), (0x039FFFFE#32, .fbne false (2097150)),
     (0x25A00002#32, .fblg true (-2097150)), (0x079FFFFC#32, .fbul false (2097148)),
     (0x29A00004#32, .fbl true (-2097148)), (0x0B9FFFFA#32, .fbug false (2097146)),
     (0x2DA00006#32, .fbg true (-2097146)), (0x0F9FFFF8#32, .fbu false (2097144)), (0x31A00008#32, .fba true (-2097144)),
     (0x139FFFF6#32, .fbe false (2097142)), (0x35A0000A#32, .fbue true (-2097142)),
     (0x179FFFF4#32, .fbge false (2097140)), (0x39A0000C#32, .fbuge true (-2097140)),
     (0x1B9FFFF2#32, .fble false (2097138)), (0x3DA0000E#32, .fbule true (-2097138)),
     (0x1F9FFFF0#32, .fbo false (2097136))] : List (Word × Instr)),
    decodeBytes (wordBytes p.1) = .instr p.2 := by decide +kernel

/-- CBccc by cond (R93). -/
theorem test_decode_cbccc : ∀ p ∈ (
    [(0x21E00000#32, .cbn true (-2097152)), (0x03DFFFFE#32, .cb123 false (2097150)),
     (0x25E00002#32, .cb12 true (-2097150)), (0x07DFFFFC#32, .cb13 false (2097148)),
     (0x29E00004#32, .cb1 true (-2097148)), (0x0BDFFFFA#32, .cb23 false (2097146)),
     (0x2DE00006#32, .cb2 true (-2097146)), (0x0FDFFFF8#32, .cb3 false (2097144)), (0x31E00008#32, .cba true (-2097144)),
     (0x13DFFFF6#32, .cb0 false (2097142)), (0x35E0000A#32, .cb03 true (-2097142)),
     (0x17DFFFF4#32, .cb02 false (2097140)), (0x39E0000C#32, .cb023 true (-2097140)),
     (0x1BDFFFF2#32, .cb01 false (2097138)), (0x3DE0000E#32, .cb013 true (-2097138)),
     (0x1FDFFFF0#32, .cb012 false (2097136))] : List (Word × Instr)),
    decodeBytes (wordBytes p.1) = .instr p.2 := by decide +kernel

/-- JMPL, RETT, IFLUSH, SAVE, RESTORE (R89). -/
theorem test_decode_jump : ∀ p ∈ (
    [(0x95C23000#32, .jmpl 10 8 (.imm (-4096))), (0x81CA0009#32, .rett 8 (.reg 9)),
     (0x95E23002#32, .save 10 8 (.imm (-4094))), (0x95EA0009#32, .restore 10 8 (.reg 9)),
     (0x81DA3004#32, .iflush 8 (.imm (-4092)))] : List (Word × Instr)),
    decodeBytes (wordBytes p.1) = .instr p.2 := by decide +kernel

/-- Ticc by cond (R93). -/
theorem test_decode_ticc : ∀ p ∈ (
    [(0x81D23000#32, .tn 8 (.imm (-4096))), (0x83D20009#32, .te 8 (.reg 9)), (0x85D23002#32, .tle 8 (.imm (-4094))),
     (0x87D20009#32, .tl 8 (.reg 9)), (0x89D23004#32, .tleu 8 (.imm (-4092))), (0x8BD20009#32, .tcs 8 (.reg 9)),
     (0x8DD23006#32, .tneg 8 (.imm (-4090))), (0x8FD20009#32, .tvs 8 (.reg 9)), (0x91D23008#32, .ta 8 (.imm (-4088))),
     (0x93D20009#32, .tne 8 (.reg 9)), (0x95D2300A#32, .tg 8 (.imm (-4086))), (0x97D20009#32, .tge 8 (.reg 9)),
     (0x99D2300C#32, .tgu 8 (.imm (-4084))), (0x9BD20009#32, .tcc 8 (.reg 9)), (0x9DD2300E#32, .tpos 8 (.imm (-4082))),
     (0x9FD20009#32, .tvc 8 (.reg 9))] : List (Word × Instr)),
    decodeBytes (wordBytes p.1) = .instr p.2 := by decide +kernel

/-- The state register instructions (R89). -/
theorem test_decode_state : ∀ p ∈ (
    [(0x95400000#32, .rdy 10), (0x95480000#32, .rdpsr 10), (0x95500000#32, .rdwim 10), (0x95580000#32, .rdtbr 10),
     (0x81823004#32, .wry 8 (.imm (-4092))), (0x818A0009#32, .wrpsr 8 (.reg 9)),
     (0x81923006#32, .wrwim 8 (.imm (-4090))), (0x819A0009#32, .wrtbr 8 (.reg 9))] : List (Word × Instr)),
    decodeBytes (wordBytes p.1) = .instr p.2 := by decide +kernel

/-- FPops by opf (R91). -/
theorem test_decode_fpop : ∀ p ∈ (
    [(0x95A20029#32, .fmovs 10 8 9), (0x95A200A9#32, .fnegs 10 8 9), (0x95A20129#32, .fabss 10 8 9),
     (0x95A20529#32, .fsqrts 10 8 9), (0x95A20549#32, .fsqrtd 10 8 9), (0x95A20569#32, .fsqrtx 10 8 9),
     (0x95A20829#32, .fadds 10 8 9), (0x95A20849#32, .faddd 10 8 9), (0x95A20869#32, .faddx 10 8 9),
     (0x95A208A9#32, .fsubs 10 8 9), (0x95A208C9#32, .fsubd 10 8 9), (0x95A208E9#32, .fsubx 10 8 9),
     (0x95A20929#32, .fmuls 10 8 9), (0x95A20949#32, .fmuld 10 8 9), (0x95A20969#32, .fmulx 10 8 9),
     (0x95A209A9#32, .fdivs 10 8 9), (0x95A209C9#32, .fdivd 10 8 9), (0x95A209E9#32, .fdivx 10 8 9),
     (0x95A21889#32, .fitos 10 8 9), (0x95A218C9#32, .fdtos 10 8 9), (0x95A218E9#32, .fxtos 10 8 9),
     (0x95A21909#32, .fitod 10 8 9), (0x95A21929#32, .fstod 10 8 9), (0x95A21969#32, .fxtod 10 8 9),
     (0x95A21989#32, .fitox 10 8 9), (0x95A219A9#32, .fstox 10 8 9), (0x95A219C9#32, .fdtox 10 8 9),
     (0x95A21A29#32, .fstoi 10 8 9), (0x95A21A49#32, .fdtoi 10 8 9), (0x95A21A69#32, .fxtoi 10 8 9),
     (0x95AA0A29#32, .fcmps 10 8 9), (0x95AA0A49#32, .fcmpd 10 8 9), (0x95AA0A69#32, .fcmpx 10 8 9),
     (0x95AA0AA9#32, .fcmpes 10 8 9), (0x95AA0AC9#32, .fcmped 10 8 9), (0x95AA0AE9#32, .fcmpex 10 8 9)] : List (Word × Instr)),
    decodeBytes (wordBytes p.1) = .instr p.2 := by decide +kernel

/-- CPops (R92). -/
theorem test_decode_cpop : ∀ p ∈ (
    [(0x95B22AA9#32, .cpop1 10 8 0x155 9), (0x95BA2AA9#32, .cpop2 10 8 0x155 9)] : List (Word × Instr)),
    decodeBytes (wordBytes p.1) = .instr p.2 := by decide +kernel

/-- CALL, SETHI, UNIMP (R86, R87). -/
theorem test_decode_call_sethi : ∀ p ∈ (
    [(0x6ABCDEF1#32, .call 0x2ABCDEF1), (0x152BCDEF#32, .sethi 10 0x2BCDEF), (0x002BCDEF#32, .unimp 0x2BCDEF)] : List (Word × Instr)),
    decodeBytes (wordBytes p.1) = .instr p.2 := by decide +kernel

/-- Reserved words (30_encoding.md R87, R89, R90), an alternate-space form with i = 1, and an opf of no row. -/
theorem test_rejected : decode 0x00400000#32 = .reject .reserved ∧ decode 0x80480000#32 = .reject .reserved ∧
    decode 0xC0400000#32 = .reject .reserved ∧ decode 0xD0806160#32 = .reject .alternateImmediate ∧
    decode 0x89A00D22#32 = .reject .unassignedFpop := by decide +kernel

/-! ## Single instructions -/

/-- 95_test_vectors.md 4.1 -/
theorem test_ldsb :
    holds (run 0xD0486000 (withM (withR start [(1, 0x2000)]) 0x2000 [0x807FFF01, 0x12345678, 0x9ABCDEF0, 0x0F1E2D3C])) (fun t => regIn t t.psr.cwp 8 = 0xFFFFFF80 && t.pc = 0x1004 && t.npc = 0x1008) = true := by
  decide +kernel

/-- 95_test_vectors.md 4.1 -/
theorem test_ldub :
    holds (run 0xD0086003 (withM (withR start [(1, 0x2000)]) 0x2000 [0x807FFF01, 0x12345678, 0x9ABCDEF0, 0x0F1E2D3C])) (fun t => regIn t t.psr.cwp 8 = 0x1 && t.pc = 0x1004 && t.npc = 0x1008) = true := by
  decide +kernel

/-- 95_test_vectors.md 4.1 -/
theorem test_ldsh :
    holds (run 0xD0506002 (withM (withR start [(1, 0x2000)]) 0x2000 [0x807FFF01, 0x12345678, 0x9ABCDEF0, 0x0F1E2D3C])) (fun t => regIn t t.psr.cwp 8 = 0xFFFFFF01 && t.pc = 0x1004 && t.npc = 0x1008) = true := by
  decide +kernel

/-- 95_test_vectors.md 4.1 -/
theorem test_lduh :
    holds (run 0xD0106002 (withM (withR start [(1, 0x2000)]) 0x2000 [0x807FFF01, 0x12345678, 0x9ABCDEF0, 0x0F1E2D3C])) (fun t => regIn t t.psr.cwp 8 = 0xFF01 && t.pc = 0x1004 && t.npc = 0x1008) = true := by
  decide +kernel

/-- 95_test_vectors.md 4.1 -/
theorem test_ld :
    holds (run 0xD0006004 (withM (withR start [(1, 0x2000)]) 0x2000 [0x807FFF01, 0x12345678, 0x9ABCDEF0, 0x0F1E2D3C])) (fun t => regIn t t.psr.cwp 8 = 0x12345678 && t.pc = 0x1004 && t.npc = 0x1008) = true := by
  decide +kernel

/-- 95_test_vectors.md 4.1: an odd rd names the same pair -/
theorem test_ldd_odd :
    holds (run 0xD6186008 (withM (withR start [(1, 0x2000)]) 0x2000 [0x807FFF01, 0x12345678, 0x9ABCDEF0, 0x0F1E2D3C])) (fun t => regIn t t.psr.cwp 10 = 0x9ABCDEF0 && regIn t t.psr.cwp 11 = 0xF1E2D3C) = true := by
  decide +kernel

/-- 95_test_vectors.md 4.1 -/
theorem test_ldd_g0 :
    holds (run 0xC0186008 (withM (withR start [(1, 0x2000)]) 0x2000 [0x807FFF01, 0x12345678, 0x9ABCDEF0, 0x0F1E2D3C])) (fun t => regIn t t.psr.cwp 0 = 0x0 && regIn t t.psr.cwp 1 = 0xF1E2D3C) = true := by
  decide +kernel

/-- 95_test_vectors.md 4.1: the address wraps -/
theorem test_ld_wraps :
    holds (run 0xD0004002 (withM (withR start [(1, 0xFFFFFFFC), (2, 0x2008)]) 0x2000 [0x807FFF01, 0x12345678, 0x9ABCDEF0, 0x0F1E2D3C])) (fun t => regIn t t.psr.cwp 8 = 0x12345678) = true := by
  decide +kernel

/-- 95_test_vectors.md 4.1 -/
theorem test_ld_misaligned :
    holds (run 0xD0006002 (withM (withR start [(1, 0x2000)]) 0x2000 [0x807FFF01, 0x12345678, 0x9ABCDEF0, 0x0F1E2D3C])) (fun t => t.pc = 0x4070 && t.tbr.tt = 0x7 && t.psr.cwp = 7 && regIn t 7 17 = 0x1000 && regIn t 7 18 = 0x1004) = true := by
  decide +kernel

/-- 95_test_vectors.md 4.1, in ASI 0x0B -/
theorem test_ldsba :
    holds (run 0xD0C84160 (withM (withR start [(1, 0x2000)]) 0x2000 [0x807FFF01, 0x12345678, 0x9ABCDEF0, 0x0F1E2D3C])) (fun t => regIn t t.psr.cwp 8 = 0xFFFFFF80 && t.pc = 0x1004) = true := by
  decide +kernel

/-- 95_test_vectors.md 4.1, in ASI 0x0B -/
theorem test_lduba :
    holds (run 0xD0884160 (withM (withR start [(1, 0x2000)]) 0x2000 [0x807FFF01, 0x12345678, 0x9ABCDEF0, 0x0F1E2D3C])) (fun t => regIn t t.psr.cwp 8 = 0x80 && t.pc = 0x1004) = true := by
  decide +kernel

/-- 95_test_vectors.md 4.1, in ASI 0x0B -/
theorem test_ldsha :
    holds (run 0xD0D04160 (withM (withR start [(1, 0x2000)]) 0x2000 [0x807FFF01, 0x12345678, 0x9ABCDEF0, 0x0F1E2D3C])) (fun t => regIn t t.psr.cwp 8 = 0xFFFF807F && t.pc = 0x1004) = true := by
  decide +kernel

/-- 95_test_vectors.md 4.1, in ASI 0x0B -/
theorem test_lduha :
    holds (run 0xD0904160 (withM (withR start [(1, 0x2000)]) 0x2000 [0x807FFF01, 0x12345678, 0x9ABCDEF0, 0x0F1E2D3C])) (fun t => regIn t t.psr.cwp 8 = 0x807F && t.pc = 0x1004) = true := by
  decide +kernel

/-- 95_test_vectors.md 4.4 -/
theorem test_lda :
    holds (run 0xD0804160 (withM (withR start [(1, 0x2000)]) 0x2000 [0x807FFF01, 0x12345678, 0x9ABCDEF0, 0x0F1E2D3C])) (fun t => regIn t t.psr.cwp 8 = 0x807FFF01 && t.pc = 0x1004) = true := by
  decide +kernel

/-- 95_test_vectors.md 4.1, in ASI 0x0B -/
theorem test_ldda :
    holds (run 0xD4984160 (withM (withR start [(1, 0x2000)]) 0x2000 [0x807FFF01, 0x12345678, 0x9ABCDEF0, 0x0F1E2D3C])) (fun t => regIn t t.psr.cwp 10 = 0x807FFF01 && regIn t t.psr.cwp 11 = 0x12345678) = true := by
  decide +kernel

/-- 95_test_vectors.md 4.4 -/
theorem test_lda_user :
    holds (run 0xD0804160 (withM (withR user [(1, 0x2000)]) 0x2000 [0x807FFF01, 0x12345678, 0x9ABCDEF0, 0x0F1E2D3C])) (fun t => t.pc = 0x4030 && t.tbr.tt = 0x3 && t.psr.cwp = 7 && regIn t 7 17 = 0x1000 && regIn t 7 18 = 0x1004) = true := by
  decide +kernel

/-- 95_test_vectors.md 4.2 -/
theorem test_stb :
    holds (run 0xD0286001 (withM (withR start [(1, 0x3000), (8, 0x11223344), (10, 0x99AABBCC), (11, 0xDDEEFF00)]) 0x3000 [0xAAAAAAAA, 0xAAAAAAAA])) (fun t => datumAt t.mem 0x3000 .double = 0xAA44AAAAAAAAAAAA && t.pc = 0x1004) = true := by
  decide +kernel

/-- 95_test_vectors.md 4.2 -/
theorem test_sth :
    holds (run 0xD0306002 (withM (withR start [(1, 0x3000), (8, 0x11223344), (10, 0x99AABBCC), (11, 0xDDEEFF00)]) 0x3000 [0xAAAAAAAA, 0xAAAAAAAA])) (fun t => datumAt t.mem 0x3000 .double = 0xAAAA3344AAAAAAAA && t.pc = 0x1004) = true := by
  decide +kernel

/-- 95_test_vectors.md 4.2 -/
theorem test_st :
    holds (run 0xD0206004 (withM (withR start [(1, 0x3000), (8, 0x11223344), (10, 0x99AABBCC), (11, 0xDDEEFF00)]) 0x3000 [0xAAAAAAAA, 0xAAAAAAAA])) (fun t => datumAt t.mem 0x3000 .double = 0xAAAAAAAA11223344 && t.pc = 0x1004) = true := by
  decide +kernel

/-- 95_test_vectors.md 4.2 -/
theorem test_std_odd :
    holds (run 0xD6386000 (withM (withR start [(1, 0x3000), (8, 0x11223344), (10, 0x99AABBCC), (11, 0xDDEEFF00)]) 0x3000 [0xAAAAAAAA, 0xAAAAAAAA])) (fun t => datumAt t.mem 0x3000 .double = 0x99AABBCCDDEEFF00 && t.pc = 0x1004) = true := by
  decide +kernel

/-- 95_test_vectors.md 4.2, in ASI 0x0A -/
theorem test_stba :
    holds (run 0xD0A84140 (withM (withR start [(1, 0x3000), (8, 0x11223344), (10, 0x99AABBCC), (11, 0xDDEEFF00)]) 0x3000 [0xAAAAAAAA, 0xAAAAAAAA])) (fun t => datumAt t.mem 0x3000 .double = 0x44AAAAAAAAAAAAAA && t.pc = 0x1004) = true := by
  decide +kernel

/-- 95_test_vectors.md 4.2, in ASI 0x0A -/
theorem test_stha :
    holds (run 0xD0B04140 (withM (withR start [(1, 0x3000), (8, 0x11223344), (10, 0x99AABBCC), (11, 0xDDEEFF00)]) 0x3000 [0xAAAAAAAA, 0xAAAAAAAA])) (fun t => datumAt t.mem 0x3000 .double = 0x3344AAAAAAAAAAAA && t.pc = 0x1004) = true := by
  decide +kernel

/-- 95_test_vectors.md 4.2, in ASI 0x0A -/
theorem test_sta :
    holds (run 0xD0A04140 (withM (withR start [(1, 0x3000), (8, 0x11223344), (10, 0x99AABBCC), (11, 0xDDEEFF00)]) 0x3000 [0xAAAAAAAA, 0xAAAAAAAA])) (fun t => datumAt t.mem 0x3000 .double = 0x11223344AAAAAAAA && t.pc = 0x1004) = true := by
  decide +kernel

/-- 95_test_vectors.md 4.2, in ASI 0x0A -/
theorem test_stda :
    holds (run 0xD4B84140 (withM (withR start [(1, 0x3000), (8, 0x11223344), (10, 0x99AABBCC), (11, 0xDDEEFF00)]) 0x3000 [0xAAAAAAAA, 0xAAAAAAAA])) (fun t => datumAt t.mem 0x3000 .double = 0x99AABBCCDDEEFF00 && t.pc = 0x1004) = true := by
  decide +kernel

/-- 95_test_vectors.md 4.2: memory unchanged -/
theorem test_std_misaligned :
    holds (run 0xD4386004 (withM (withR start [(1, 0x3000), (8, 0x11223344), (10, 0x99AABBCC), (11, 0xDDEEFF00)]) 0x3000 [0xAAAAAAAA, 0xAAAAAAAA])) (fun t => t.pc = 0x4070 && t.tbr.tt = 0x7 && t.psr.cwp = 7 && regIn t 7 17 = 0x1000 && regIn t 7 18 = 0x1004 && datumAt t.mem 0x3000 .double = 0xAAAAAAAAAAAAAAAA) = true := by
  decide +kernel

/-- 95_test_vectors.md 4.3 -/
theorem test_ldstub :
    holds (run 0xD0686001 (withM (withR start [(1, 0x2000), (8, 0x12345678)]) 0x2000 [0x00005A00])) (fun t => regIn t t.psr.cwp 8 = 0x0 && datumAt t.mem 0x2000 .word = 0x00FF5A00) = true := by
  decide +kernel

/-- 95_test_vectors.md 4.3 -/
theorem test_swap :
    holds (run 0xD0786000 (withM (withR start [(1, 0x2000), (8, 0x12345678)]) 0x2000 [0xCAFEF00D])) (fun t => regIn t t.psr.cwp 8 = 0xCAFEF00D && datumAt t.mem 0x2000 .word = 0x12345678) = true := by
  decide +kernel

/-- 95_test_vectors.md 4.3, in ASI 0x0A -/
theorem test_ldstuba :
    holds (run 0xD0E84140 (withM (withR start [(1, 0x2000), (8, 0x12345678)]) 0x2000 [0x00005A00])) (fun t => regIn t t.psr.cwp 8 = 0x0 && datumAt t.mem 0x2000 .word = 0xFF005A00) = true := by
  decide +kernel

/-- 95_test_vectors.md 4.3, in ASI 0x0A -/
theorem test_swapa :
    holds (run 0xD0F84140 (withM (withR start [(1, 0x2000), (8, 0x12345678)]) 0x2000 [0xCAFEF00D])) (fun t => regIn t t.psr.cwp 8 = 0xCAFEF00D && datumAt t.mem 0x2000 .word = 0x12345678) = true := by
  decide +kernel

/-- 95_test_vectors.md 4.5 -/
theorem test_ldf :
    holds (run 0xC7006004 (withM (withR start [(1, 0x2000)]) 0x2000 [0x807FFF01, 0x12345678, 0x9ABCDEF0, 0x0F1E2D3C])) (fun t => readF t 3 = 0x12345678 && t.pc = 0x1004) = true := by
  decide +kernel

/-- 95_test_vectors.md 4.5 -/
theorem test_lddf_odd :
    holds (run 0xCB186008 (withM (withR start [(1, 0x2000)]) 0x2000 [0x807FFF01, 0x12345678, 0x9ABCDEF0, 0x0F1E2D3C])) (fun t => readF t 4 = 0x9ABCDEF0 && readF t 5 = 0x0F1E2D3C) = true := by
  decide +kernel

/-- 95_test_vectors.md 4.5 -/
theorem test_ldfsr :
    holds (run 0xC1086000 (withM (withR start [(1, 0x2000), (8, 0x12345678)]) 0x2000 [0xFFFFFFFF])) (fun t => fsrWord t = 0xFFC60FFF) = true := by
  decide +kernel

/-- 95_test_vectors.md 4.5 -/
theorem test_stfsr :
    holds (run 0xC1286000 (withM (withR start [(1, 0x2000), (8, 0x12345678)]) 0x2000 [0x00000000])) (fun t => datumAt t.mem 0x2000 .word = 0x00060000) = true := by
  decide +kernel

/-- 40_load_store.md R144 -/
theorem test_stf :
    holds (run 0xC7206000 ({ withM (withR start [(1, 0x2000), (8, 0x12345678)]) 0x2000 [0x00000000] with f := start.f.set 3 0x12345678 })) (fun t => datumAt t.mem 0x2000 .word = 0x12345678) = true := by
  decide +kernel

/-- 40_load_store.md R145 -/
theorem test_stdf :
    holds (run 0xCB386000 ({ withM (withR start [(1, 0x2000), (8, 0x12345678)]) 0x2000 [0x00000000] with f := (start.f.set 4 0x12345678).set 5 0x9ABCDEF0 })) (fun t => datumAt t.mem 0x2000 .double = 0x123456789ABCDEF0) = true := by
  decide +kernel

/-- 40_load_store.md R149 -/
theorem test_stdfq :
    holds (run 0xC1306000 ({ withM (withR start [(1, 0x2000), (8, 0x12345678)]) 0x2000 [0x00000000] with fpMode := .exception, fq := [{ addr := 0x1230, instr := 0x89A00822 }] })) (fun t => datumAt t.mem 0x2000 .double = 0x0000123089A00822 && t.fq = [] && t.fpMode = .execution) = true := by
  decide +kernel

/-- 95_test_vectors.md 4.5 -/
theorem test_fp_disabled :
    holds (run 0xC7006004 ({ withM (withR start [(1, 0x2000)]) 0x2000 [0x807FFF01, 0x12345678, 0x9ABCDEF0, 0x0F1E2D3C] with psr := { start.psr with ef := false } })) (fun t => t.pc = 0x4040 && t.tbr.tt = 0x4 && t.psr.cwp = 7 && regIn t 7 17 = 0x1000 && regIn t 7 18 = 0x1004) = true := by
  decide +kernel

/-- 40_load_store.md R160 -/
theorem test_ldc :
    holds (run 0xC7806004 ({ withM (withR enabledCp [(1, 0x2000)]) 0x2000 [0x807FFF01, 0x12345678] with cp := { enabledCp.cp with c := (enabledCp.cp.c.set 4 0x55).set 5 0x66, csr := 0x77 } })) (fun t => readC t.cp 3 = 0x12345678) = true := by
  decide +kernel

/-- 40_load_store.md R161 -/
theorem test_lddc :
    holds (run 0xC9986000 ({ withM (withR enabledCp [(1, 0x2000)]) 0x2000 [0x807FFF01, 0x12345678] with cp := { enabledCp.cp with c := (enabledCp.cp.c.set 4 0x55).set 5 0x66, csr := 0x77 } })) (fun t => readC t.cp 4 = 0x807FFF01 && readC t.cp 5 = 0x12345678) = true := by
  decide +kernel

/-- 40_load_store.md R162 -/
theorem test_ldcsr :
    holds (run 0xC1886000 ({ withM (withR enabledCp [(1, 0x2000)]) 0x2000 [0x807FFF01, 0x12345678] with cp := { enabledCp.cp with c := (enabledCp.cp.c.set 4 0x55).set 5 0x66, csr := 0x77 } })) (fun t => t.pc = 0x1004 && t.npc = 0x1008) = true := by
  decide +kernel

/-- 40_load_store.md R163 -/
theorem test_stc :
    holds (run 0xC9A06000 ({ withM (withR enabledCp [(1, 0x2000)]) 0x2000 [0x807FFF01, 0x12345678] with cp := { enabledCp.cp with c := (enabledCp.cp.c.set 4 0x55).set 5 0x66, csr := 0x77 } })) (fun t => datumAt t.mem 0x2000 .word = 0x00000055) = true := by
  decide +kernel

/-- 40_load_store.md R164 -/
theorem test_stdc :
    holds (run 0xC9B86000 ({ withM (withR enabledCp [(1, 0x2000)]) 0x2000 [0x807FFF01, 0x12345678] with cp := { enabledCp.cp with c := (enabledCp.cp.c.set 4 0x55).set 5 0x66, csr := 0x77 } })) (fun t => datumAt t.mem 0x2000 .double = 0x0000005500000066) = true := by
  decide +kernel

/-- 92_eei_decisions.md D12: an odd rd stores the same pair -/
theorem test_stdc_odd :
    holds (run 0xCBB86000 ({ withR enabledCp [(1, 0x2000)] with cp := { enabledCp.cp with c := (enabledCp.cp.c.set 4 0x55).set 5 0x66 } })) (fun t => datumAt t.mem 0x2000 .double = 0x0000005500000066) = true := by
  decide +kernel

/-- 40_load_store.md R165 -/
theorem test_stcsr :
    holds (run 0xC1A86000 ({ withM (withR enabledCp [(1, 0x2000)]) 0x2000 [0x807FFF01, 0x12345678] with cp := { enabledCp.cp with c := (enabledCp.cp.c.set 4 0x55).set 5 0x66, csr := 0x77 } })) (fun t => datumAt t.mem 0x2000 .word = 0x00000077) = true := by
  decide +kernel

/-- 40_load_store.md R166 -/
theorem test_stdcq :
    holds (run 0xC1B06000 ({ withM (withR enabledCp [(1, 0x2000)]) 0x2000 [0x807FFF01, 0x12345678] with cp := { enabledCp.cp with c := (enabledCp.cp.c.set 4 0x55).set 5 0x66, csr := 0x77, mode := .exception, cq := [{ addr := 0x1230, instr := 0x81B00000 }] } })) (fun t => datumAt t.mem 0x2000 .double = 0x0000123081B00000 && t.pc = 0x1004) = true := by
  decide +kernel

/-- 95_test_vectors.md 4.5 -/
theorem test_cp_disabled :
    holds (run 0xC1806000 (withR start [(1, 0x2000)])) (fun t => t.pc = 0x4240 && t.tbr.tt = 0x24 && t.psr.cwp = 7 && regIn t 7 17 = 0x1000 && regIn t 7 18 = 0x1004) = true := by
  decide +kernel

/-- 45_coprocessor.md R343 -/
theorem test_cpop1 :
    holds (run 0x81B00000 enabledCp) (fun t => t.pc = 0x1004 && t.npc = 0x1008 && t.cp.cq = [{ addr := 0x1000, instr := 0x81B00000 }]) = true := by
  decide +kernel

/-- 45_coprocessor.md R343 -/
theorem test_cpop2 :
    holds (run 0x81B80000 enabledCp) (fun t => t.pc = 0x1004 && t.npc = 0x1008 && t.cp.cq = [{ addr := 0x1000, instr := 0x81B80000 }]) = true := by
  decide +kernel

/-- 95_test_vectors.md 5.1 -/
theorem test_add :
    holds (run 0x94020009 (withR start [(8, 0x7FFFFFFF), (9, 0x1)])) (fun t => regIn t t.psr.cwp 10 = 0x80000000 && icc t = 0 && t.pc = 0x1004) = true := by
  decide +kernel

/-- 95_test_vectors.md 5.1 -/
theorem test_addcc :
    holds (run 0x94820009 (withR start [(8, 0x80000000), (9, 0x80000000)])) (fun t => regIn t t.psr.cwp 10 = 0x0 && icc t = 7 && t.pc = 0x1004) = true := by
  decide +kernel

/-- 95_test_vectors.md 5.1 -/
theorem test_addcc_imm :
    holds (run 0x94823FFF (withR start [(8, 0x1)])) (fun t => regIn t t.psr.cwp 10 = 0x0 && icc t = 5 && t.pc = 0x1004) = true := by
  decide +kernel

/-- 95_test_vectors.md 5.1 -/
theorem test_addx :
    holds (run 0x94420009 (setIcc (withR start [(8, 0x5), (9, 0x6)]) { n := false, z := false, v := false, c := true })) (fun t => regIn t t.psr.cwp 10 = 0xC && icc t = 1 && t.pc = 0x1004) = true := by
  decide +kernel

/-- 95_test_vectors.md 5.1 -/
theorem test_addxcc :
    holds (run 0x94C20009 (setIcc (withR start [(8, 0xFFFFFFFF), (9, 0xFFFFFFFF)]) { n := false, z := false, v := false, c := true })) (fun t => regIn t t.psr.cwp 10 = 0xFFFFFFFF && icc t = 9 && t.pc = 0x1004) = true := by
  decide +kernel

/-- 95_test_vectors.md 5.1 -/
theorem test_sub :
    holds (run 0x94220009 (withR start [(8, 0x5), (9, 0x7)])) (fun t => regIn t t.psr.cwp 10 = 0xFFFFFFFE && icc t = 0 && t.pc = 0x1004) = true := by
  decide +kernel

/-- 95_test_vectors.md 5.1 -/
theorem test_subcc :
    holds (run 0x94A20009 (withR start [(8, 0x7FFFFFFF), (9, 0xFFFFFFFF)])) (fun t => regIn t t.psr.cwp 10 = 0x80000000 && icc t = 11 && t.pc = 0x1004) = true := by
  decide +kernel

/-- 95_test_vectors.md 5.1 -/
theorem test_subx :
    holds (run 0x94620009 (setIcc (withR start [(8, 0xA), (9, 0x3)]) { n := false, z := false, v := false, c := true })) (fun t => regIn t t.psr.cwp 10 = 0x6 && icc t = 1 && t.pc = 0x1004) = true := by
  decide +kernel

/-- 95_test_vectors.md 5.1 -/
theorem test_subxcc :
    holds (run 0x94E20009 (setIcc (withR start [(8, 0x0), (9, 0xFFFFFFFF)]) { n := false, z := false, v := false, c := true })) (fun t => regIn t t.psr.cwp 10 = 0x0 && icc t = 5 && t.pc = 0x1004) = true := by
  decide +kernel

/-- 95_test_vectors.md 5.2 -/
theorem test_taddcc :
    holds (run 0x95020009 (withR start [(8, 0x3), (9, 0xFFFFFFFD)])) (fun t => regIn t t.psr.cwp 10 = 0x0 && icc t = 7 && t.pc = 0x1004) = true := by
  decide +kernel

/-- 95_test_vectors.md 5.2 -/
theorem test_tsubcc :
    holds (run 0x950A0009 (withR start [(8, 0x80000000), (9, 0x4)])) (fun t => regIn t t.psr.cwp 10 = 0x7FFFFFFC && icc t = 2 && t.pc = 0x1004) = true := by
  decide +kernel

/-- 95_test_vectors.md 5.2 -/
theorem test_taddcctv :
    holds (run 0x95120009 (withR start [(8, 0x4), (9, 0x8)])) (fun t => regIn t t.psr.cwp 10 = 0xC && icc t = 0 && t.pc = 0x1004) = true := by
  decide +kernel

/-- 95_test_vectors.md 5.2 -/
theorem test_tsubcctv :
    holds (run 0x951A0009 (withR start [(8, 0x8), (9, 0x4)])) (fun t => regIn t t.psr.cwp 10 = 0x4 && icc t = 0 && t.pc = 0x1004) = true := by
  decide +kernel

/-- 95_test_vectors.md 5.2 -/
theorem test_taddcctv_traps :
    holds (run 0x95120009 (withR start [(8, 0x4), (9, 0x9)])) (fun t => t.pc = 0x40A0 && t.tbr.tt = 0xA && t.psr.cwp = 7 && regIn t 7 17 = 0x1000 && regIn t 7 18 = 0x1004 && regIn t 0 10 = 0 && icc t = 0) = true := by
  decide +kernel

/-- 95_test_vectors.md 5.2 -/
theorem test_tsubcctv_traps :
    holds (run 0x951A0009 (withR start [(8, 0x80000000), (9, 0x4)])) (fun t => t.pc = 0x40A0 && t.tbr.tt = 0xA && t.psr.cwp = 7 && regIn t 7 17 = 0x1000 && regIn t 7 18 = 0x1004) = true := by
  decide +kernel

/-- 95_test_vectors.md 5.3 -/
theorem test_and :
    holds (run 0x940A0009 (withR start [(8, 0xF0F0F0F0), (9, 0xFF00FF00)])) (fun t => regIn t t.psr.cwp 10 = 0xF000F000 && icc t = 0 && t.pc = 0x1004) = true := by
  decide +kernel

/-- 95_test_vectors.md 5.3 -/
theorem test_andcc :
    holds (run 0x948A0009 (withR start [(8, 0xF0F0F0F0), (9, 0xF0F0F0F)])) (fun t => regIn t t.psr.cwp 10 = 0x0 && icc t = 4 && t.pc = 0x1004) = true := by
  decide +kernel

/-- 95_test_vectors.md 5.3 -/
theorem test_andn :
    holds (run 0x942A0009 (withR start [(8, 0xF0F0F0F0), (9, 0xFF00FF00)])) (fun t => regIn t t.psr.cwp 10 = 0xF000F0 && icc t = 0 && t.pc = 0x1004) = true := by
  decide +kernel

/-- 95_test_vectors.md 5.3 -/
theorem test_andncc :
    holds (run 0x94AA0009 (withR start [(8, 0xFFFFFFFF), (9, 0x7FFFFFFF)])) (fun t => regIn t t.psr.cwp 10 = 0x80000000 && icc t = 8 && t.pc = 0x1004) = true := by
  decide +kernel

/-- 95_test_vectors.md 5.3 -/
theorem test_or :
    holds (run 0x94120009 (withR start [(8, 0xF0F0F0F0), (9, 0xFF00FF00)])) (fun t => regIn t t.psr.cwp 10 = 0xFFF0FFF0 && icc t = 0 && t.pc = 0x1004) = true := by
  decide +kernel

/-- 95_test_vectors.md 5.3 -/
theorem test_orcc :
    holds (run 0x94920009 (withR start [(8, 0x0), (9, 0x0)])) (fun t => regIn t t.psr.cwp 10 = 0x0 && icc t = 4 && t.pc = 0x1004) = true := by
  decide +kernel

/-- 95_test_vectors.md 5.3 -/
theorem test_orn :
    holds (run 0x94320009 (withR start [(8, 0xF0F0F0F0), (9, 0xFF00FF00)])) (fun t => regIn t t.psr.cwp 10 = 0xF0FFF0FF && icc t = 0 && t.pc = 0x1004) = true := by
  decide +kernel

/-- 95_test_vectors.md 5.3 -/
theorem test_orncc :
    holds (run 0x94B20009 (withR start [(8, 0x0), (9, 0xFFFFFFFF)])) (fun t => regIn t t.psr.cwp 10 = 0x0 && icc t = 4 && t.pc = 0x1004) = true := by
  decide +kernel

/-- 95_test_vectors.md 5.3 -/
theorem test_xor :
    holds (run 0x941A0009 (withR start [(8, 0xF0F0F0F0), (9, 0xFF00FF00)])) (fun t => regIn t t.psr.cwp 10 = 0xFF00FF0 && icc t = 0 && t.pc = 0x1004) = true := by
  decide +kernel

/-- 95_test_vectors.md 5.3 -/
theorem test_xorcc :
    holds (run 0x949A0009 (withR start [(8, 0x12345678), (9, 0x12345678)])) (fun t => regIn t t.psr.cwp 10 = 0x0 && icc t = 4 && t.pc = 0x1004) = true := by
  decide +kernel

/-- 95_test_vectors.md 5.3 -/
theorem test_xnor :
    holds (run 0x943A0009 (withR start [(8, 0xF0F0F0F0), (9, 0xFF00FF00)])) (fun t => regIn t t.psr.cwp 10 = 0xF00FF00F && icc t = 0 && t.pc = 0x1004) = true := by
  decide +kernel

/-- 95_test_vectors.md 5.3 -/
theorem test_xnorcc :
    holds (run 0x94BA0009 (withR start [(8, 0x12345678), (9, 0x12345678)])) (fun t => regIn t t.psr.cwp 10 = 0xFFFFFFFF && icc t = 8 && t.pc = 0x1004) = true := by
  decide +kernel

/-- 95_test_vectors.md 5.4 -/
theorem test_sll :
    holds (run 0x952A0009 (withR start [(8, 0x12345678), (9, 0xFFFFFFE4)])) (fun t => regIn t t.psr.cwp 10 = 0x23456780 && icc t = 0 && t.pc = 0x1004) = true := by
  decide +kernel

/-- 95_test_vectors.md 5.4 -/
theorem test_srl :
    holds (run 0x95320009 (withR start [(8, 0xFFFFFFFF), (9, 0x21)])) (fun t => regIn t t.psr.cwp 10 = 0x7FFFFFFF && icc t = 0 && t.pc = 0x1004) = true := by
  decide +kernel

/-- 95_test_vectors.md 5.4 -/
theorem test_sra :
    holds (run 0x953A0009 (withR start [(8, 0xFFFFFFFE), (9, 0x3F)])) (fun t => regIn t t.psr.cwp 10 = 0xFFFFFFFF && icc t = 0 && t.pc = 0x1004) = true := by
  decide +kernel

/-- 95_test_vectors.md 5.4 -/
theorem test_sll_imm :
    holds (run 0x952A3FE4 (withR start [(8, 0x87654321)])) (fun t => regIn t t.psr.cwp 10 = 0x76543210 && icc t = 0 && t.pc = 0x1004) = true := by
  decide +kernel

/-- 95_test_vectors.md 5.4 -/
theorem test_sethi :
    holds (run 0x113FFFFF (start)) (fun t => regIn t t.psr.cwp 8 = 0xFFFFFC00 && t.pc = 0x1004) = true := by
  decide +kernel

/-- 95_test_vectors.md 5.4: nothing but PC and nPC changes -/
theorem test_sethi_g0 :
    holds (run 0x01123456 (start)) (fun t => t = { start with pc := 0x1004, npc := 0x1008 }) = true := by
  decide +kernel

/-- 95_test_vectors.md 5.5 -/
theorem test_mulscc :
    holds (run 0x95220009 (setIcc { withR start [(8, 3), (9, 7)] with y := 0xFFFFFFFF } { n := true, z := false, v := false, c := false })) (fun t => regIn t t.psr.cwp 10 = 0x80000008 && t.y = 0xFFFFFFFF && icc t = 8) = true := by
  decide +kernel

/-- 95_test_vectors.md 5.5 -/
theorem test_mulscc_y :
    holds (run 0x95220009 ({ withR start [(8, 1), (9, 3)] with y := 4 })) (fun t => regIn t t.psr.cwp 10 = 0x0 && t.y = 0x80000002 && icc t = 4) = true := by
  decide +kernel

/-- Row 0110 of the Bicc matrix, and row 1001 (95_test_vectors.md 6.1): a taken branch leaves nPC at its target. -/
theorem test_bicc : (List.range 16).map (fun c =>
      holds (run (BitVec.ofNat 32 (c * 2 ^ 25 + 0x00800010)) (setIcc start { n := false, z := true, v := true, c := false }))
        fun t => t.npc = 0x1044 && t.pc = 0x1004) =
    [false, true, true, true, true, false, false, true, true, false, false, false, false, true, true, false] ∧
    (List.range 16).map (fun c =>
      holds (run (BitVec.ofNat 32 (c * 2 ^ 25 + 0x00800010)) (setIcc start { n := true, z := false, v := false, c := true }))
        fun t => t.npc = 0x1044 && t.pc = 0x1004) =
    [false, false, true, true, true, true, true, false, true, true, false, false, false, false, false, true] := by
  decide +kernel

/-- The same rows with the annul bit (42_control_transfer.md R222): an untaken branch, and BA, annul the delay instruction. -/
theorem test_bicc_annul : (List.range 16).map (fun c =>
      holds (run (BitVec.ofNat 32 (c * 2 ^ 25 + 0x20800010)) (setIcc start { n := false, z := true, v := true, c := false }))
        fun t => t.pc = 0x1008 && t.npc = 0x100C) =
    [true, false, false, false, false, true, true, false, false, true, true, true, true, false, false, true] ∧
    holds (run 0x30800010 start) (fun t => t.pc = 0x1044 && t.npc = 0x1048) = true := by
  decide +kernel

/-- Rows 1 and 3 of the FBfcc matrix (95_test_vectors.md 6.2). -/
theorem test_fbfcc : (List.range 16).map (fun c =>
      holds (run (BitVec.ofNat 32 (c * 2 ^ 25 + 0x01800010)) { start with fsr := { Fsr.reset with fcc := 1 } })
        fun t => t.npc = 0x1044) =
    [false, true, true, true, true, false, false, false, true, false, false, false, false, true, true, true] ∧
    (List.range 16).map (fun c =>
      holds (run (BitVec.ofNat 32 (c * 2 ^ 25 + 0x01800010)) { start with fsr := { Fsr.reset with fcc := 3 } })
        fun t => t.npc = 0x1044) =
    [false, true, false, true, false, true, false, true, true, false, true, false, true, false, true, false] := by
  decide +kernel

/-- CBccc with CCC = 2 and CCC = 0, each name's digits being the values for which it is taken (42_control_transfer.md R225). -/
theorem test_cbccc : (List.range 16).map (fun c =>
      holds (run (BitVec.ofNat 32 (c * 2 ^ 25 + 0x01C00010)) { enabledCp with cp := { enabledCp.cp with ccc := 2 } })
        fun t => t.npc = 0x1044) =
    [false, true, true, false, false, true, true, false, true, false, false, true, true, false, false, true] ∧
    (List.range 16).map (fun c =>
      holds (run (BitVec.ofNat 32 (c * 2 ^ 25 + 0x01C00010)) enabledCp) fun t => t.npc = 0x1044) =
    [false, false, false, false, false, false, false, false, true, true, true, true, true, true, true, true] := by
  decide +kernel

/-- Row 0110 of the matrix for Ticc (95_test_vectors.md 6.1, 6.7): the trap type is 128 + 5. -/
theorem test_ticc : (List.range 16).map (fun c =>
      holds (run (BitVec.ofNat 32 (c * 2 ^ 25 + 0x81D02005)) (setIcc start { n := false, z := true, v := true, c := false }))
        fun t => t.pc = 0x4850) =
    [false, true, true, true, true, false, false, true, true, false, false, false, false, true, true, false] ∧
    (List.range 16).map (fun c =>
      holds (run (BitVec.ofNat 32 (c * 2 ^ 25 + 0x81D02005)) (setIcc start { n := true, z := false, v := false, c := true }))
        fun t => t.pc = 0x4850) =
    [false, false, true, true, true, true, true, false, true, true, false, false, false, false, false, true] := by
  decide +kernel

/-- 95_test_vectors.md 6.3: the largest backward displacement -/
theorem test_branch_backward :
    holds (run 0x10A00000 (start)) (fun t => t.npc = 0xFF801004) = true := by
  decide +kernel

/-- 95_test_vectors.md 6.7: bit 7 of the sum dropped -/
theorem test_ta_wraps :
    holds (run 0x91D06080 (withR start [(1, 0x0)])) (fun t => t.pc = 0x4800 && t.tbr.tt = 0x80 && t.psr.cwp = 7 && regIn t 7 17 = 0x1000 && regIn t 7 18 = 0x1004) = true := by
  decide +kernel

/-- 95_test_vectors.md 6.3 -/
theorem test_call :
    holds (run 0x7FFFFDFF (start)) (fun t => t.pc = 0x1004 && t.npc = 0x800 && regIn t t.psr.cwp 15 = 0x1000) = true := by
  decide +kernel

/-- 95_test_vectors.md 6.4: the address is formed before rd is written -/
theorem test_jmpl :
    holds (run 0x91C22000 (withR start [(8, 0x3000)])) (fun t => t.npc = 0x3000 && regIn t t.psr.cwp 8 = 0x1000) = true := by
  decide +kernel

/-- 95_test_vectors.md 6.4 -/
theorem test_jmpl_misaligned :
    holds (run 0x9FC04002 (withR start [(1, 0x2000), (2, 0x12)])) (fun t => t.pc = 0x4070 && t.tbr.tt = 0x7 && t.psr.cwp = 7 && regIn t 7 17 = 0x1000 && regIn t 7 18 = 0x1004 && regIn t 0 15 = 0) = true := by
  decide +kernel

/-- 95_test_vectors.md 6.5 -/
theorem test_save :
    holds (run 0x9DE3BFA0 (withR { start with psr := { start.psr with cwp := 3 }, wim := 1 } [(14, 0x8000), (8, 0x111)])) (fun t => t.psr.cwp = 2 && regIn t t.psr.cwp 14 = 0x7FA0 && regIn t t.psr.cwp 30 = 0x8000 && regIn t t.psr.cwp 24 = 0x111) = true := by
  decide +kernel

/-- 95_test_vectors.md 6.5 -/
theorem test_save_overflow :
    holds (run 0x81E00000 ({ start with psr := { start.psr with cwp := 1 }, wim := 1 })) (fun t => t.pc = 0x4050 && t.psr.cwp = 0) = true := by
  decide +kernel

/-- 95_test_vectors.md 6.5 -/
theorem test_restore :
    holds (run 0x91EE2001 (withR { start with psr := { start.psr with cwp := 2 }, wim := 1 } [(24, 0x111)])) (fun t => t.psr.cwp = 3 && regIn t t.psr.cwp 8 = 0x112) = true := by
  decide +kernel

/-- 95_test_vectors.md 6.5 -/
theorem test_restore_underflow :
    holds (run 0x81E80000 ({ start with wim := 2 })) (fun t => t.pc = 0x4060 && t.tbr.tt = 0x6 && t.psr.cwp = 7 && regIn t 7 17 = 0x1000 && regIn t 7 18 = 0x1004) = true := by
  decide +kernel

/-- 95_test_vectors.md 6.6 -/
theorem test_rett :
    holds (run 0x81CCA000 (withR { start with psr := { start.psr with et := false, ef := false, cwp := 7 }, pc := 0x4054, npc := 0x1000, wim := 2 } [(18, 0x1004)])) (fun t => psrWord t t.psr = 0x11000020 && t.pc = 0x1000 && t.npc = 0x1004) = true := by
  decide +kernel

/-- 95_test_vectors.md 6.6 -/
theorem test_rett_invalid_window :
    holds (run 0x81CCA000 (withR { start with psr := { start.psr with et := false, ef := false, cwp := 7 }, pc := 0x4054, npc := 0x1000, wim := 1 } [(18, 0x1004)])) (fun t => t.mode = .error && t.tbr.tt = 6) = true := by
  decide +kernel

/-- 95_test_vectors.md 7 -/
theorem test_rdpsr :
    holds (run 0x91480000 ({ start with psr := psrOfWord start 0x119015E3 })) (fun t => regIn t t.psr.cwp 8 = 0x119015E3) = true := by
  decide +kernel

/-- 95_test_vectors.md 7: not privileged -/
theorem test_rdy :
    holds (run 0x91400000 ({ user with y := 0x12345678 })) (fun t => regIn t t.psr.cwp 8 = 0x12345678) = true := by
  decide +kernel

/-- 95_test_vectors.md 7 -/
theorem test_rdwim :
    holds (run 0x91500000 ({ start with wim := 0x81 })) (fun t => regIn t t.psr.cwp 8 = 0x81) = true := by
  decide +kernel

/-- 95_test_vectors.md 7 -/
theorem test_rdtbr :
    holds (run 0x91580000 ({ start with tbr := { tba := 0xABCDE, tt := 0x2A } })) (fun t => regIn t t.psr.cwp 8 = 0xABCDE2A0) = true := by
  decide +kernel

/-- 95_test_vectors.md 7 -/
theorem test_wrpsr :
    holds (run 0x818A0009 (withR start [(8, 0xFFFFFFFF), (9, 0x18)])) (fun t => psrWord t t.psr = 0x11F03FE7) = true := by
  decide +kernel

/-- 95_test_vectors.md 7: in user mode too -/
theorem test_wrpsr_illegal_cwp :
    holds (run 0x81882088 (user)) (fun t => t.pc = 0x4020 && t.tbr.tt = 0x2 && t.psr.cwp = 7 && regIn t 7 17 = 0x1000 && regIn t 7 18 = 0x1004) = true := by
  decide +kernel

/-- 95_test_vectors.md 7 -/
theorem test_wrwim :
    holds (run 0x81922001 (withR start [(8, 0x3)])) (fun t => t.wim = 2) = true := by
  decide +kernel

/-- 95_test_vectors.md 7 -/
theorem test_wrtbr :
    holds (run 0x819A0000 ({ withR start [(8, 0xFFFFFFFF)] with tbr := { tba := 4, tt := 5 } })) (fun t => tbrWord t.tbr.tba t.tbr.tt = 0xFFFFF050) = true := by
  decide +kernel

/-- 95_test_vectors.md 7 -/
theorem test_wry :
    holds (run 0x818220FF (withR start [(8, 0x12345678)])) (fun t => t.y = 0x12345687) = true := by
  decide +kernel

/-- 43_state_register_misc.md R270 -/
theorem test_iflush :
    holds (run 0x81D82000 (start)) (fun t => t = { start with pc := 0x1004, npc := 0x1008 }) = true := by
  decide +kernel

/-- 43_state_register_misc.md R270: with IFT low IFLUSH traps, on the CY7C611 too -/
theorem test_iflush_low :
    holds (run 0x81D82000 ({ start with plat := { start.plat with iu := .cy7c611, iftPin := false } })) (fun t => t.tbr.tt = 0x2) = true := by
  decide +kernel

/-- 95_test_vectors.md 3 -/
theorem test_unimp :
    holds (run 0x00000000 (start)) (fun t => t.pc = 0x4020 && t.tbr.tt = 0x2 && t.psr.cwp = 7 && regIn t 7 17 = 0x1000 && regIn t 7 18 = 0x1004) = true := by
  decide +kernel

/-- 95_test_vectors.md 9.2 -/
theorem test_unimp_error_mode :
    holds (run 0x00000000 ({ start with psr := { State.reset.psr with s := false } })) (fun t => t.mode = .error && psrWord t t.psr = 0x11000087 && t.tbr.tt = 2 && regIn t 7 17 = 0x1000 && regIn t 7 18 = 0x1004) = true := by
  decide +kernel

/-- 95_test_vectors.md 8.1 -/
theorem test_fmovs :
    holds (run 0x89A00022 ({ start with f := (start.f.set 2 0x7FC00001) })) (fun t => readF t 4 = 0x7FC00001 && fsrWord t = 0x00060000) = true := by
  decide +kernel

/-- 95_test_vectors.md 8.1 -/
theorem test_fnegs :
    holds (run 0x89A000A2 ({ start with f := (start.f.set 2 0x00000000) })) (fun t => readF t 4 = 0x80000000 && fsrWord t = 0x00060000) = true := by
  decide +kernel

/-- 95_test_vectors.md 8.1 -/
theorem test_fabss :
    holds (run 0x89A00122 ({ start with f := (start.f.set 2 0xFF800001) })) (fun t => readF t 4 = 0x7F800001 && fsrWord t = 0x00060000) = true := by
  decide +kernel

/-- 95_test_vectors.md 8.2: a tie to even -/
theorem test_fadds :
    holds (run 0x89A00822 ({ start with f := ((start.f.set 0 0x3F800001).set 2 0x33800000) })) (fun t => readF t 4 = 0x3F800002 && fsrWord t = 0x00060021) = true := by
  decide +kernel

/-- 95_test_vectors.md 8.1 -/
theorem test_fsubs :
    holds (run 0x89A008A2 ({ start with f := ((start.f.set 0 0x3F800000).set 2 0x40000000) })) (fun t => readF t 4 = 0xBF800000 && fsrWord t = 0x00060000) = true := by
  decide +kernel

/-- 95_test_vectors.md 8.3: overflow -/
theorem test_fmuls :
    holds (run 0x89A00922 ({ start with f := ((start.f.set 0 0x7F7FFFFF).set 2 0x40000000) })) (fun t => readF t 4 = 0x7F800000 && fsrWord t = 0x00060129) = true := by
  decide +kernel

/-- 95_test_vectors.md 8.1 -/
theorem test_fdivs :
    holds (run 0x89A009A2 ({ start with f := ((start.f.set 0 0x3F800000).set 2 0x40400000) })) (fun t => readF t 4 = 0x3EAAAAAB && fsrWord t = 0x00060021) = true := by
  decide +kernel

/-- 95_test_vectors.md 8.3: invalid -/
theorem test_fsqrts :
    holds (run 0x89A00522 ({ start with f := (start.f.set 2 0xBF800000) })) (fun t => readF t 4 = 0x7FFFFFFF && fsrWord t = 0x00060210) = true := by
  decide +kernel

/-- 95_test_vectors.md 8.8: odd register numbers -/
theorem test_faddd :
    holds (run 0x8BA04843 ({ start with f := ((((start.f.set 0 0x3FF00000).set 1 0x00000000).set 2 0x40000000).set 3 0x00000000) })) (fun t => readFd t 4 = 0x4008000000000000 && fsrWord t = 0x00060000) = true := by
  decide +kernel

/-- 95_test_vectors.md 8 (3.0 - 2.0 = 1.0) -/
theorem test_fsubd :
    holds (run 0x89A008C2 ({ start with f := ((((start.f.set 0 0x40080000).set 1 0x00000000).set 2 0x40000000).set 3 0x00000000) })) (fun t => readFd t 4 = 0x3FF0000000000000 && fsrWord t = 0x00060000) = true := by
  decide +kernel

/-- 95_test_vectors.md 8.3 -/
theorem test_fmuld :
    holds (run 0x89A00942 ({ start with f := ((((start.f.set 0 0x7FEFFFFF).set 1 0xFFFFFFFF).set 2 0x40000000).set 3 0x00000000) })) (fun t => readFd t 4 = 0x7FF0000000000000 && fsrWord t = 0x00060129) = true := by
  decide +kernel

/-- 95_test_vectors.md 8.1 -/
theorem test_fdivd :
    holds (run 0x89A009C2 ({ start with f := ((((start.f.set 0 0x3FF00000).set 1 0x00000000).set 2 0x40080000).set 3 0x00000000) })) (fun t => readFd t 4 = 0x3FD5555555555555 && fsrWord t = 0x00060021) = true := by
  decide +kernel

/-- 95_test_vectors.md 8.1 -/
theorem test_fsqrtd :
    holds (run 0x89A00542 ({ start with f := ((start.f.set 2 0x40000000).set 3 0x00000000) })) (fun t => readFd t 4 = 0x3FF6A09E667F3BCD && fsrWord t = 0x00060021) = true := by
  decide +kernel

/-- 95_test_vectors.md 8.6 -/
theorem test_fitos :
    holds (run 0x89A01882 ({ start with f := (start.f.set 2 0x01000003) })) (fun t => readF t 4 = 0x4B800002 && fsrWord t = 0x00060021) = true := by
  decide +kernel

/-- 95_test_vectors.md 8.6 -/
theorem test_fitod :
    holds (run 0x89A01902 ({ start with f := (start.f.set 2 0x7FFFFFFF) })) (fun t => readFd t 4 = 0x41DFFFFFFFC00000 && fsrWord t = 0x00060000) = true := by
  decide +kernel

/-- 95_test_vectors.md 8.6 -/
theorem test_fstoi :
    holds (run 0x89A01A22 ({ start with f := (start.f.set 2 0xBFC00000) })) (fun t => readF t 4 = 0xFFFFFFFF && fsrWord t = 0x00060021) = true := by
  decide +kernel

/-- 95_test_vectors.md 8.6 -/
theorem test_fdtoi :
    holds (run 0x89A01A42 ({ start with f := ((start.f.set 2 0xC1E00000).set 3 0x001FFFFF) })) (fun t => readF t 4 = 0x80000000 && fsrWord t = 0x00060021) = true := by
  decide +kernel

/-- 95_test_vectors.md 8.6 -/
theorem test_fstod :
    holds (run 0x89A01922 ({ start with f := (start.f.set 2 0x7F7FFFFF) })) (fun t => readFd t 4 = 0x47EFFFFFE0000000 && fsrWord t = 0x00060000) = true := by
  decide +kernel

/-- 95_test_vectors.md 8.6 -/
theorem test_fdtos :
    holds (run 0x89A018C2 ({ start with f := ((start.f.set 2 0x3FF00000).set 3 0x30000000) })) (fun t => readF t 4 = 0x3F800002 && fsrWord t = 0x00060021) = true := by
  decide +kernel

/-- 95_test_vectors.md 8.7 -/
theorem test_fcmps :
    holds (run 0x81A80A22 ({ start with f := ((start.f.set 0 0x3F800000).set 2 0x7F800001) })) (fun t => fsrWord t = 0x00060E10) = true := by
  decide +kernel

/-- 95_test_vectors.md 8.7 -/
theorem test_fcmpes :
    holds (run 0x81A80AA2 ({ start with f := ((start.f.set 0 0x3F800000).set 2 0x7FC00000) })) (fun t => fsrWord t = 0x00060E10) = true := by
  decide +kernel

/-- 95_test_vectors.md 8.7 -/
theorem test_fcmpd :
    holds (run 0x81A80A42 ({ start with f := ((((start.f.set 0 0xFFF00000).set 1 0x00000000).set 2 0x7FF00000).set 3 0x00000000) })) (fun t => fsrWord t = 0x00060400) = true := by
  decide +kernel

/-- 95_test_vectors.md 8.7 -/
theorem test_fcmped :
    holds (run 0x81A80AC2 ({ start with f := ((((start.f.set 0 0x3FF00000).set 1 0x00000000).set 2 0x7FF80000).set 3 0x00000000) })) (fun t => fsrWord t = 0x00060E10) = true := by
  decide +kernel

/-- 95_test_vectors.md 8.4 -/
theorem test_fdivs_trap_enabled :
    holds (run 0x89A009A2 ({ start with f := ((start.f.set 0 0x3F800000).set 2 0x00000000), fsr := fsrOfWord Fsr.reset 0x01060000 })) (fun t => readF t 4 = 0x00000000 && fsrWord t = 0x01066002 && t.fpMode = .pending && t.fq = [{ addr := 0x1000, instr := 0x89A009A2 }] && t.pc = 0x1004) = true := by
  decide +kernel

/-- 95_test_vectors.md 8.5: unfinished_FPop -/
theorem test_fmuls_denormal :
    holds (run 0x89A00922 ({ start with f := ((start.f.set 0 0x00000001).set 2 0x3F800000) })) (fun t => readF t 4 = 0x00000000 && fsrWord t = 0x0006A000 && t.fpMode = .pending) = true := by
  decide +kernel

/-- The next state of an FPop the FPU does not implement, from `start`. -/
def unimplemented (o : Option State) : Bool :=
  holds o (fun t => fsrWord t = 0x0006E000 && t.f = start.f && t.fpMode = .pending && t.pc = 0x1004)

/-- The extended FPops: FTT = 3, in the queue, no f register changed (95_test_vectors.md 8.8, with each opf of 30_encoding.md R91). -/
theorem test_extended :
    unimplemented (run 0x89A00862 start) = true ∧
    unimplemented (run 0x89A008E2 start) = true ∧
    unimplemented (run 0x89A00962 start) = true ∧
    unimplemented (run 0x89A009E2 start) = true ∧
    unimplemented (run 0x89A00562 start) = true ∧
    unimplemented (run 0x89A01982 start) = true ∧
    unimplemented (run 0x89A019A2 start) = true ∧
    unimplemented (run 0x89A019C2 start) = true ∧
    unimplemented (run 0x89A01A62 start) = true ∧
    unimplemented (run 0x89A018E2 start) = true ∧
    unimplemented (run 0x89A01962 start) = true ∧
    unimplemented (run 0x89A80A62 start) = true ∧
    unimplemented (run 0x89A80AE2 start) = true := by decide +kernel

/-- 95_test_vectors.md 8.8 -/
theorem test_sequence_error :
    holds (run 0x89A00822 ({ start with fpMode := .exception, fq := [{ addr := 0, instr := 0 }], fsr := { fsrOfWord Fsr.reset 0x01066002 with ftt := 1 } })) (fun t => fsrWord t = 0x01072002 && t.fpMode = .pending && t.fq.length = 1) = true := by
  decide +kernel

/-- 95_test_vectors.md 6.2 -/
theorem test_fp_exception :
    holds (run 0x11800000 ({ start with fpMode := .pending })) (fun t => t.pc = 0x4080 && t.tbr.tt = 0x8 && t.psr.cwp = 7 && regIn t 7 17 = 0x1000 && regIn t 7 18 = 0x1004 && t.fpMode = .exception) = true := by
  decide +kernel

/-! ## Steps, the CMU, reset -/

/-- The end of reset (95_test_vectors.md 11.1). -/
theorem test_reset : holds (match step { start with
      mode := .reset, pc := 0x12344, npc := 0x12348, psr := psrOfWord start 0x11F03F65, wim := 0x5A, y := 0x0BADF00D,
      fpMode := .pending, fq := [{ addr := 1, instr := 2 }] } with
    | .next t => some t
    | _ => none) (fun t => psrWord t t.psr = 0x11F03FC5 && t.pc = 0 && t.npc = 4 && t.wim = 0x5A && t.y = 0x0BADF00D &&
      fsrWord t = 0x00060000 && t.fpMode = .execution && t.mode = .execute) = true := by decide +kernel

/-- Equal levels are masked (95_test_vectors.md 9.4). -/
theorem test_interrupt_masked :
    boundary { start with psr := { start.psr with pil := 5 }, plat := { start.plat with irl := 5 } } = .instruction := by
  decide +kernel

/-- A word placed for the next fetch is run by the next step, and a write to the WIM stays pending for three instructions. -/
theorem test_step : holds (match step (start.withFetchWord 32 0x81903FFF) with
    | .next t => some t
    | _ => none) (fun t => t.wim = 0xFF && t.wimWin.left = 3 && t.pc = 0x1004) = true := by decide +kernel

/-- The four-level walk of 95_test_vectors.md 10.1. -/
def tables : State :=
  withM (withM (withM (withM withMmu 0x40000C [0x40101]) 0x401048 [0x40201]) 0x402034 [0x40211]) 0x402114 [0xABCDE78E]

/-- A load through the walk sets R (95_test_vectors.md 10.1). -/
theorem test_walk_load :
    (readMem (withM tables 0xABCDE7678 [0x11223344]) 0x0B 0x12345678 .word).2 = some 0x11223344 ∧
      datumAt (readMem tables 0x0B 0x12345678 .word).1.mem 0x402114 .word = 0xABCDE7AE := by decide +kernel

/-- A store sets M too; its datum goes to a write buffer and from there to memory. -/
theorem test_walk_store : datumAt (writeMem tables 0x0B 0x12345678 .word 5).1.mem 0x402114 .word = 0xABCDE7EE ∧
    (writeMem tables 0x0B 0x12345678 .word 5).1.cmu.wbuf = [{ bank := 0, pa := 0xABCDE7678, bytes := [0, 0, 0, 5] }] ∧
    datumAt (drainOne (writeMem tables 0x0B 0x12345678 .word 5).1).mem 0xABCDE7678 .word = 5 := by decide +kernel

/-- A doubleword store is two word accesses in one write buffer (20_memory.md R75, 21_mmu_cache.md R625); with NF = 1 each of two
failing ones records its fault, the second with OW = 1 (22_cmu_registers_faults_reset.md R664). -/
theorem test_store_pair :
    (writeMem tables 0x20 0x2000 .double 0x0102030405060708).1.cmu.wbuf =
      [{ bank := 0, pa := 0x2000, bytes := [1, 2, 3, 4, 5, 6, 7, 8] }] ∧
    (let s := withM tables 0x402034 [0]
     let r := writeMem { s with cmu := { s.cmu with scr := s.cmu.scr ||| 2#32 } } 0x0B 0x12345678 .double 0
     r.2 = true ∧ r.1.cmu.sfar = 0x1234567C ∧ r.1.cmu.sfsr.getLsbD 0 = true ∧ r.1.cmu.wbuf = []) := by decide +kernel

/-- The CMU with one valid TLB entry, of a 256-kbyte region. -/
def oneEntry : State :=
  { withMmu with cmu := { withMmu.cmu with
      tlb := withMmu.cmu.tlb.set 63
        { va := 0x12345, cxn := 3, ppn := 0xABCDE7, c := true, m := true, acc := 3, st := 1, v := true } } }

/-- A load sees the store that is still in a buffer (20_memory.md R78). -/
theorem test_store_then_load :
    (readMem (writeMem oneEntry 0x0B 0x12345678 .word 5).1 0x0B 0x12345678 .word).2 = some 5 := by decide +kernel

/-- An atomic access that meets a modified line by an alias remembers the line's old word (21_mmu_cache.md R627,
70_reset_and_hazards.md R516). -/
theorem test_exchange_alias :
    let e : TlbEntry := { va := 0x22345, cxn := 3, ppn := 0xABCDE7, c := true, m := true, acc := 3, st := 1, v := true }
    let c := { oneEntry.cmu with scr := 0x501, tlb := oneEntry.cmu.tlb.set 62 e }
    let s := withData (setTag { oneEntry with cmu := c } 0x2B3
      { va := 0x1234, cxn := 3, v := true, m := true, sh := false, s := false }) (setDatum [] 0x5678 .word 0x11223344)
    let r := cmuExchange s 0x0B 0x22345679 .byte 0xFF
    r.2 = some 0x22 ∧ r.1.codeHist.map CodeEdit.old = [0x11223344] ∧ datumAt r.1.cmu.data 0x5678 .word = 0x11FF3344 := by
  decide +kernel

/-- A drain that times out: AFSR.TO and AFO, AFA and AFAR the address, and nothing stored (22 R653, R666). -/
theorem test_drain_error :
    let f : BusFault := { lo := 0xABCDE7000, hi := 0xABCDE7FFF, kind := .timeout, onRead := false, onWrite := true }
    let s := writeMem { tables with plat := { tables.plat with busFault := [f] } } 0x0B 0x12345678 .word 5
    s.2 = true ∧ (drainOne s.1).cmu.afsr = 0x8A1 ∧ (drainOne s.1).cmu.afar = 0xBCDE7678 ∧
      datumAt (drainOne s.1).mem 0xABCDE7678 .word = 0 := by decide +kernel

/-- An invalid level-2 entry under a user data load (95_test_vectors.md 10.2). -/
theorem test_walk_fault : (readMem (withM tables 0x402034 [0]) 0x0A 0x12345678 .word).2 = none ∧
    (readMem (withM tables 0x402034 [0]) 0x0A 0x12345678 .word).1.cmu.sfsr = 0x206 ∧
    (readMem (withM tables 0x402034 [0]) 0x0A 0x12345678 .word).1.cmu.sfar = 0x12345678 := by decide +kernel

/-- A user store to a read-only page (95_test_vectors.md 10.3; the L field of the SFSR is free here). -/
theorem test_protection : (writeMem (withM tables 0x402114 [0xABCDE782]) 0x0A 0x12345678 .word 0).2 = false ∧
    (writeMem (withM tables 0x402114 [0xABCDE782]) 0x0A 0x12345678 .word 0).1.cmu.sfar = 0x12345678 ∧
    (writeMem (withM tables 0x402114 [0xABCDE782]) 0x0A 0x12345678 .word 5).1.cmu.wbuf = [] := by decide +kernel

/-! ## Witnesses: the hypotheses of the statements are met, in each clause, at boundary values -/

theorem witness_ResetStep :
    let s : State := { start with mode := .reset }
    s.mode = .reset ∧ s.plat.resetPin = false ∧ s.plat.porPin = false := by decide +kernel

theorem witness_InvariantKeptByEveryStep : (start.withFetchWord 32 0x81903FFF).Inv ∧
    ∃ t, step (start.withFetchWord 32 0x81903FFF) = .next t := by
  refine ⟨⟨?_, ?_, ?_, ?_, ?_, ?_, ?_, ?_⟩, ⟨_, rfl⟩⟩
  case refine_8 => exact Bool.and_eq_true_iff.2 ⟨decide_eq_true cpCccOfCsr_zero.symm, rfl⟩
  all_goals decide +kernel

theorem witness_DecodeOfEncode : Instr.wellFormed (.addcc 10 8 (.imm (-4096))) = true ∧
    Instr.wellFormed (.ldd 31 0 (.imm 4095)) = true ∧ Instr.wellFormed (.bvs true (-2097152)) = true ∧
    Instr.wellFormed (.fbo false 2097151) = true := by decide

theorem witness_ReservedWords : decode 0x01400000#32 = .reject .reserved ∧ decode 0x81F80000#32 = .reject .reserved ∧
    decode 0xC1F80000#32 = .reject .reserved ∧ decode 0xC0FFFFFF#32 = .reject .alternateImmediate ∧
    decode 0xC0F82000#32 = .reject .alternateImmediate := by decide +kernel

theorem witness_StepRunsTheDecodedInstruction :
    let s := start.withFetchWord 32 0x94020009
    Quiet s ∧ s.codeHist = [] ∧ boundary s = .instruction ∧ Instr.wellFormed (.add 10 8 (.reg 9)) = true ∧
      decodeBytes [at' s (place s s.pc), at' s (place s s.pc + 1), at' s (place s s.pc + 2), at' s (place s s.pc + 3)] =
        .instr (.add 10 8 (.reg 9)) := by decide +kernel

theorem witness_StepAtAWordOfNoRow :
    (∀ w ∈ ([0x00400000, 0xD0806160, 0x89A00D22] : List Nat),
      Settled (start.withFetchWord 32 w) ∧ Quiet (start.withFetchWord 32 w) ∧ (start.withFetchWord 32 w).codeHist = [] ∧
        boundary (start.withFetchWord 32 w) = .instruction ∧ FpOn (start.withFetchWord 32 w) ∧
        (start.withFetchWord 32 w).fpMode = .execution) ∧
    (let s := start.withFetchWord 32 0x00400000
     decode (wordAt s (place s s.pc)) = .reject .reserved) ∧
    (let s := start.withFetchWord 32 0xD0806160
     decode (wordAt s (place s s.pc)) = .reject .alternateImmediate) ∧
    (let s := start.withFetchWord 32 0x89A00D22
     decode (wordAt s (place s s.pc)) = .reject .unassignedFpop) := by decide +kernel

theorem witness_InterruptBoundary :
    let s : State := { start with psr := { start.psr with pil := 15 }, plat := { start.plat with irl := 15 } }
    Settled s ∧ s.mode = .execute ∧ s.plat.resetPin = false ∧ s.plat.porPin = false ∧ s.cmu.irst = false ∧
      s.psr.et = true ∧ s.plat.irl ≠ 0 := by decide +kernel

theorem witness_ErrorMode :
    let s : State := { start with mode := .error }
    let t : State := { withMmu with mode := .error }
    (s.mode = .error ∧ s.plat.resetPin = false ∧ s.plat.porPin = false ∧ s.cmu.irst = false ∧ hasCmu s = false) ∧
    (t.mode = .error ∧ t.plat.resetPin = false ∧ t.plat.porPin = false ∧ t.cmu.irst = false ∧ hasCmu t = true) := by
  decide +kernel

theorem witness_RegisterWindows : regIndex 7 31 = regIndex 0 15 ∧ regIndex 0 7 = regIndex 7 7 ∧
    regIndex 0 8 = regIndex 7 24 ∧ regIndex 3 16 = regIndex 3 16 := by decide

theorem witness_TrapEntry : Settled start ∧ start.psr.et = true ∧
    Settled { start with psr := { start.psr with et := false } } ∧
    regIndex 7 16 ≠ regIndex (start.psr.cwp - 1) 17 ∧ regIndex 7 19 ≠ regIndex (start.psr.cwp - 1) 18 := by decide +kernel

/-- Of ResultsWithoutConditionCodes, AdditionConditionCodes, SubtractionConditionCodes, LogicalConditionCodes, MultiplyStep, SaveAndRestore, TrapsOnConditionCodes and FlushAndUnimplemented. -/
theorem witness_Settled : Settled start ∧ Settled user := by decide +kernel

/-- Of Branches and CallAndJump. -/
theorem witness_Branches : Settled enabledCp ∧ enabledCp.condDelay = false ∧ FpOn enabledCp ∧ enabledCp.fpMode ≠ .pending ∧
    UnitMode.exception ≠ UnitMode.pending ∧ CpOn enabledCp ∧ enabledCp.cp.mode ≠ .pending ∧ enabledCp.cp.cq = [] := by
  decide +kernel

theorem witness_ReturnFromTrap :
    let s := withR { start with psr := { start.psr with et := false, cwp := 7 }, wim := 2 } [(18, 0x1004)]
    Settled s ∧ s.condDelay = false ∧ s.psr.s = true ∧ s.wim.getLsbD ((s.psr.cwp.toNat + 1) % 8) = false ∧
      (ea s 18 (.imm 0)).toNat % 4 = 0 := by decide +kernel

/-- The branches, CALL and JMPL, and a RETT that returns from supervisor mode with PS = 0. -/
theorem witness_CoupleAfterConditionalBranch :
    let s : State := { enabledCp with condDelay := true }
    let r : State := { withR { start with psr := { start.psr with et := false, cwp := 7 }, wim := 2 } [(18, 0x1004)] with
      condDelay := true }
    Settled s ∧ s.condDelay = true ∧ FpOn s ∧ s.fpMode ≠ .pending ∧ CpOn s ∧ s.cp.mode ≠ .pending ∧ s.cp.cq = [] ∧
      (ea s 0 (.imm 8)).toNat % 4 = 0 ∧ Settled r ∧ r.condDelay = true ∧ r.psr.et = false ∧ r.psr.s = true ∧ r.psr.ps = false ∧
      r.wim.getLsbD ((r.psr.cwp.toNat + 1) % 8) = false ∧ (ea r 18 (.imm 0)).toNat % 4 = 0 := by
  decide +kernel

theorem witness_StateRegisterReads : Settled start ∧ start.psr.s = true := by decide +kernel

theorem witness_StateRegisterWrites : Settled start ∧ start.psr.s = true ∧
    (reg start 0 ^^^ arg start (.imm 7)).toNat % 32 < 8 ∧ 8 ≤ (reg start 0 ^^^ arg start (.imm 8)).toNat % 32 := by
  decide +kernel

/-- A PSR window in which C and EF changed and neither N nor ET did, windows of the WIM and of TBA, and one of Y. -/
theorem witness_DelayedWriteWindow :
    let q : Psr := { start.psr with c := true, ef := false }
    let s : State := { start with psr := q, psrWin := { writes := [(start.psr, q)], left := 3 } }
    let t : State := { start with yWin := { writes := [(1, 2)], left := 3 }, wimWin := { writes := [(1, 2)], left := 2 } }
    let u : State := { start with tbaWin := { writes := [(0, 4)], left := 1 } }
    t.psrWin.writes = [] ∧ t.tbaWin.writes = [] ∧ t.psr.s = true ∧ u.psrWin.writes = [] ∧ u.psr.s = true ∧
      s.condDelay = false ∧ (∀ p ∈ s.psrWin.writes, p.1.et = p.2.et) ∧ ¬(∀ p ∈ s.psrWin.writes, p.1.icc = p.2.icc) ∧
      (∀ p ∈ u.psrWin.writes, p.1.icc = p.2.icc) := by decide +kernel

/-- Of IntegerLoads and IntegerStoresAndAtomics: an address of every alignment, at the top of memory. -/
theorem witness_IntegerLoads : Settled start ∧ Quiet start ∧ (ea start 0 (.imm (-8))).toNat % 8 = 0 ∧
    (ea start 0 (.imm (-4))).toNat % 4 = 0 ∧ (ea start 0 (.imm (-2))).toNat % 2 = 0 := by decide +kernel

/-- Of AlternateLoads and AlternateStores: a standard space, a space of the platform, and one with no answer. -/
theorem witness_AlternateLoads :
    let s : State := { start with plat := { start.plat with asiSpace := [(0x40, 5)] } }
    Settled s ∧ Quiet s ∧ s.psr.s = true ∧ bareBank s 0x0B = some 0 ∧ bareBank s 0x40 = some 5 ∧ bareBank s 0x41 = none ∧
      (reg s 0 + reg s 0).toNat % 8 = 0 := by decide +kernel

/-- Of FloatingLoads and FloatingStores. -/
theorem witness_FloatingLoads : Settled start ∧ Quiet start ∧ FpOn start ∧ start.fpMode = .execution ∧
    (ea start 0 (.imm 8)).toNat % 8 = 0 ∧ Settled { start with fpMode := .exception } ∧
    Quiet { start with fpMode := .exception } ∧ FpOn { start with fpMode := .exception } := by decide +kernel

/-- Of the STDFQ of FloatingStores. -/
theorem witness_FloatingStores_queue :
    let e : QueueEntry := { addr := 0x1230, instr := 0x89A00822 }
    let s : State := { start with fpMode := .exception, fq := [e] }
    Settled s ∧ Quiet s ∧ FpOn s ∧ s.psr.s = true ∧ (ea s 0 (.imm 8)).toNat % 8 = 0 ∧ s.fpMode = .exception ∧
      s.fq = e :: [] ∧ Settled start ∧ start.fpMode = .execution ∧ start.fq = [] := by decide +kernel

/-- A CPop; the loads and stores with an odd and an even register; STDCQ in exception mode; a coprocessor with a CPop at work. -/
theorem witness_CoprocessorInstructions : Settled enabledCp ∧ Quiet enabledCp ∧ CpOn enabledCp ∧
    enabledCp.cp.mode = .execution ∧ cpBusy enabledCp.cp = false ∧ enabledCp.psr.s = true ∧ (ea enabledCp 0 (.imm 8)).toNat % 8 = 0 ∧
    (let e : QueueEntry := { addr := 0x1230, instr := 0x81B00000 }
     let s : State := { enabledCp with cp := { enabledCp.cp with mode := .exception, cq := [e] } }
     Settled s ∧ CpOn s ∧ s.cp.mode = .exception ∧ cpBusy s.cp = false ∧ s.cp.cq = e :: [] ∧
       cpBusy { s.cp with mode := .execution } = true) ∧
    enabledCp.plat.cpPresent = true ∧ enabledCp.plat.iu = .cy7c601 ∧ boundary enabledCp = .instruction := by decide +kernel

theorem witness_MisalignedAccesses : Settled enabledCp ∧ enabledCp.psr.s = true ∧ FpOn enabledCp ∧ CpOn enabledCp ∧
    (ea enabledCp 0 (.imm 1)).toNat % 2 ≠ 0 ∧ (ea enabledCp 0 (.imm 2)).toNat % 4 ≠ 0 ∧ (ea enabledCp 0 (.imm 4)).toNat % 8 ≠ 0 ∧
    (let s := withR enabledCp [(1, 7)]
     Settled s ∧ (reg s 1 + reg s 0).toNat % 8 ≠ 0) := by decide +kernel

/-- Every kind of cycle, in the last byte of the second word of a doubleword; and a fetch. -/
theorem witness_MemoryExceptions :
    let f : MemFault := { asi := 0x0B, lo := 0x2007, hi := 0x2007, onRead := true, onWrite := true, onFetch := false }
    let g : MemFault := { asi := 0x09, lo := 0x1003, hi := 0x1003, onRead := false, onWrite := false, onFetch := true }
    let s := withR { enabledCp with plat := { enabledCp.plat with memFault := [f] } } [(1, 0x2000)]
    let t : State := { start with plat := { start.plat with memFault := [g] } }
    (Settled s ∧ hasCmu s = false ∧ FpOn s ∧ s.fpMode = .execution ∧ CpOn s ∧ s.cp.mode ≠ .pending ∧ cpBusy s.cp = false ∧ s.psr.s = true ∧
      (ea s 1 (.imm 0)).toNat % 8 = 0 ∧ (ea s 1 (.imm 4)).toNat % 4 = 0 ∧ (reg s 1 + reg s 0).toNat % 8 = 0 ∧
      f ∈ s.plat.memFault ∧ f.asi = pinAsi s (dataAsi s) ∧ f.asi = pinAsi s 0x0B ∧
      (pinAddress s (ea s 1 (.imm 0)) ≤ 0x2007 ∧ 0x2007 < pinAddress s (ea s 1 (.imm 0)) + 8) ∧
      (pinAddress s (ea s 1 (.imm 4)) ≤ 0x2007 ∧ 0x2007 < pinAddress s (ea s 1 (.imm 4)) + 4) ∧
      pinAddress s (ea s 1 (.imm 7)) = 0x2007) ∧
    (Settled t ∧ hasCmu t = false ∧ boundary t = .instruction ∧ g ∈ t.plat.memFault ∧ g.asi = pinAsi t (instrAsi t) ∧
      pinAddress t t.pc ≤ 0x1003 ∧ 0x1003 < pinAddress t t.pc + 4) := by decide +kernel

theorem witness_OnlyStoresWriteMemory : hasCmu start = false ∧ storing (.ldd 8 1 (.imm 0)) = false ∧
    completes (.ldd 8 1 (.imm 0)) start = true ∧ storing (.std 8 1 (.imm 0)) = true := by decide +kernel

theorem witness_PrivilegedInstructions : Settled user ∧ user.psr.s = false ∧
    (reg user 0 ^^^ arg user (.imm 7)).toNat % 32 < 8 := by decide +kernel

theorem witness_DisabledUnits :
    (∀ s ∈ ([{ start with psr := { start.psr with ef := false } },
        { start with plat := { start.plat with fpuPresent := false } }] : List State),
      Settled s ∧ s.psr.s = true ∧ (s.psr.ef = false ∨ s.plat.fpuPresent = false)) ∧
    (∀ s ∈ ([start, { enabledCp with psr := { start.psr with ec := false } },
        { enabledCp with plat := { enabledCp.plat with iu := .cy7c611 } }] : List State),
      Settled s ∧ s.psr.s = true ∧ (s.psr.ec = false ∨ s.plat.cpPresent = false ∨ s.plat.iu = .cy7c611)) := by decide +kernel

theorem witness_PendingUnitExceptions :
    let s : State := { enabledCp with fpMode := .pending, cp := { enabledCp.cp with mode := .pending } }
    Settled s ∧ FpOn s ∧ s.fpMode = .pending ∧ CpOn s ∧ s.cp.mode = .pending ∧ s.psr.s = true ∧
      (ea s 0 (.imm 8)).toNat % 8 = 0 := by decide +kernel

/-- Of FpopCompletion and IntegerToDoubleIsExact. -/
theorem witness_FpopCompletion : Settled start ∧ FpOn start ∧ start.fpMode = .execution ∧
    Settled { start with fpMode := .exception } ∧ FpOn { start with fpMode := .exception } := by decide +kernel

/-- A zero and the largest finite numbers. -/
theorem witness_ComparesOrderNumbers : Settled start ∧ FpOn start ∧ start.fpMode = .execution ∧
    Number .single (start.f.getD 0 0).toNat ∧ Number .single 0x7F7FFFFF ∧ Number .single 0x00800000 ∧
    Number .double (readFd start 0).toNat ∧ Number .double 0xFFEFFFFFFFFFFFFF := by
  unfold Number
  decide +kernel

/-- Of ArithmeticIsCorrectlyRounded and ConversionsAreCorrectlyRounded: numbers, the largest of them, and a number in a format's
range. -/
theorem witness_ArithmeticIsCorrectlyRounded : Settled start ∧ FpOn start ∧ start.fpMode = .execution ∧
    start.fsr.tem.nx = false ∧ Number .single 0x3F800000 ∧ Number .single (start.f.getD 0 0).toNat ∧
    Number .double 0x3FF0000000000000 ∧ Number .double (readFd start 2).toNat ∧ numberOf .single 0x3F800000 = 1 ∧
    numberOf .double 0x3FF0000000000000 = 1 ∧ InRange .single 0 ∧ InRange .double 0 := by
  refine ⟨by decide +kernel, by decide +kernel, rfl, rfl, ?_, ?_, ?_, ?_, by decide +kernel, by decide +kernel, .inl rfl, .inl rfl⟩ <;>
    unfold Number <;> decide +kernel

/-- One instruction that stays in user mode, and one that leaves it by a trap. -/
theorem witness_UserModeIsLeftOnlyByATrap : Settled user ∧ user.psr.s = false ∧
    holds (run 0x94020009 user) (fun t => !t.psr.s) = true ∧ holds (run 0x91D02005 user) (fun t => t.psr.s) = true := by
  decide +kernel

theorem witness_ErrorModeOnlyWithTrapsDisabled :
    let s : State := { start with psr := { start.psr with et := false } }
    Settled s ∧ s.mode = .execute ∧ holds (run 0 s) (fun t => t.mode = .error) = true := by decide +kernel

theorem witness_TlbHitAddress :
    tlbMatches oneEntry.cmu ((0x12345678#32).extractLsb' 12 20) oneEntry.cmu.context true = [63] ∧
      checkAccess 1 (oneEntry.cmu.tlb[(63 : Fin 64)]).acc = 0 ∧ (1#3).getLsbD 2 = false := by decide +kernel

/-- A walk of four levels for a load and for a store, and one that ends at its first entry. -/
theorem witness_TableWalk :
    tlbMatches tables.cmu ((0x12345678#32).extractLsb' 12 20) tables.cmu.context true = [] ∧ tables.plat.busFault = [] ∧
    tables.cmu.wbuf = [] ∧ tables.cmu.rpr.getLsbD 0 = false ∧ tables.cmu.iptp.getLsbD 0 = false ∧
    tables.cmu.dptp.getLsbD 0 = false ∧ (∀ k < 3, (entry tables 0x12345678 k).toNat % 4 = 1) ∧
    entryAddress tables 0x12345678 3 = 0x402114 ∧ (entry tables 0x12345678 3).toNat % 4 = 2 ∧
    checkAccess 1 ((entry tables 0x12345678 3).extractLsb' 2 3) = 0 ∧
    checkAccess 5 ((entry tables 0x12345678 3).extractLsb' 2 3) = 0 ∧
    (entry (withM withMmu 0x40000C [0xABCDE78E]) 0x12345678 0).toNat % 4 = 2 := by decide +kernel

/-- A load, a store and a fetch under an invalid first entry. -/
theorem witness_TranslationFaultTraps : Settled withMmu ∧ hasCmu withMmu = true ∧ withMmu.cmu.me = true ∧
    withMmu.cmu.bm = false ∧ withMmu.cmu.nf = false ∧ withMmu.cmu.answers (ea withMmu 0 (.imm 8)) = true ∧
    withMmu.cmu.answers withMmu.pc = true ∧ (ea withMmu 0 (.imm 8)).toNat % 8 = 0 := by decide +kernel

/-- The translations of that load and that store. -/
theorem witness_TranslationFaultTraps_translate : ∀ a ∈ ([1, 5] : List (BitVec 3)),
    (Machine.translate withMmu 8 withMmu.cmu.context true (.access a)).2 = .error (syncFault 1 (some 0)) ∧
    (Machine.translate withMmu 8 withMmu.cmu.context true (.access a)).1.cmu.sfsr.extractLsb' 2 3 = 0#3 := by decide +kernel

/-- The translation of that fetch. -/
theorem witness_TranslationFaultTraps_fetched :
    (Machine.translate withMmu 0x1000 withMmu.cmu.context true (.access 3)).2 = .error (syncFault 1 (some 0)) ∧
    (Machine.translate withMmu 0x1000 withMmu.cmu.context true (.access 3)).1.cmu.sfsr.extractLsb' 2 3 = 0#3 := by decide +kernel

/-- What a step finds where a CMU is there and no other agent has anything to do: its instruction. -/
theorem witness_TranslationFaultTraps_fetch : boundary withMmu = .instruction := by decide +kernel

/-- A first fault of each class under a second that is lost and one that is recorded; and a load of the SFSR. -/
theorem witness_FaultRecordOverwrite :
    let first (w : Word) : State := { withMmu with cmu := { withMmu.cmu with sfsr := w } }
    recordSync (first 0x12) (syncFault 1 none) 1 8 = first 0x12 ∧ recordSync (first 0x26) (syncFault 1 none) 3 8 = first 0x26 ∧
    (recordSync (first 0x66) (syncFault 1 none) 1 8).cmu.sfar = 8 ∧ (recordSync (first 0x26) (syncFault 4 none) 1 8).cmu.sfar = 8 ∧
    (let s := withR withMmu [(1, 0x300)]
     Settled s ∧ hasCmu s = true ∧ s.psr.s = true ∧ s.cmu.answers (reg s 1 + reg s 0) = true ∧
       (reg s 1 + reg s 0).toNat % 2 ^ 16 = 0x300) := by decide +kernel

theorem witness_ContextWritesInvalidatePointers :
    let s := withR withMmu [(1, 0x100), (2, 0x10100)]
    Settled s ∧ hasCmu s = true ∧ s.psr.s = true ∧ (reg s 1 + reg s 0).toNat % 2 ^ 16 = 0x100 ∧
      (reg s 1 + reg s 2).toNat % 2 ^ 16 = 0x200 ∧ s.cmu.answers (reg s 1 + reg s 2) = true ∧
      s.cmu.answers (reg s 1 + reg s 0) = true := by decide +kernel

/-- Every type of the statement, and the first that is none of them. -/
theorem witness_TlbFlush :
    let s := withR oneEntry [(1, 0x12345000), (2, 0x12345100), (3, 0x12345200), (4, 0x12345300), (5, 0x12345400)]
    Settled s ∧ hasCmu s = true ∧ s.psr.s = true ∧
      ∀ n ∈ ([1, 2, 3, 4, 5] : List Reg), s.cmu.answers (reg s n + reg s 0) = true ∧ (reg s n + reg s 0).toNat % 4 = 0 ∧
        (reg s n + reg s 0).toNat / 256 % 16 = n.toNat - 1 ∧ (reg s n + reg s 0).toNat / 256 % 16 < 5 := by decide +kernel

/-- A hit, a walk that succeeds, and one that fails. -/
theorem witness_Probe :
    let s := withR oneEntry [(1, 0x12345000)]
    let u := withR tables [(1, 0x12345000)]
    let v := withR withMmu [(1, 0x12345000)]
    (Settled s ∧ hasCmu s = true ∧ s.psr.s = true ∧ s.cmu.answers (reg s 1 + reg s 0) = true ∧
      (reg s 1 + reg s 0).toNat % 4 = 0 ∧ tlbMatches s.cmu ((reg s 1 + reg s 0).extractLsb' 12 20) s.cmu.context true = [63]) ∧
    (Settled u ∧ hasCmu u = true ∧ tlbMatches u.cmu ((reg u 1 + reg u 0).extractLsb' 12 20) u.cmu.context true = [] ∧
      (tableWalk u (reg u 1 + reg u 0) u.cmu.context .probe true).2 = .ok (0xABCDE7AE, 3)) ∧
    (tlbMatches v.cmu ((reg v 1 + reg v 0).extractLsb' 12 20) v.cmu.context true = [] ∧
      (tableWalk v (reg v 1 + reg v 0) v.cmu.context .probe true).2 = .error (syncFault 1 (some 0))) := by decide +kernel

/-- A probe gives the entry of the walk, with R set (22 R671). -/
theorem test_probe : holds (run 0xD0804060 (withR tables [(1, 0x12345000)])) (fun t =>
    regIn t t.psr.cwp 8 = 0xABCDE7AE && datumAt t.mem 0x402114 .word = 0xABCDE7AE) = true := by decide +kernel

/-- The cache on, write-through or copy-back, with one valid line of context 3. -/
def cached (scr : Word) : State :=
  setTag { tables with cmu := { tables.cmu with scr := scr } } 0x2B3
    { va := 0x1234, cxn := 3, v := true, m := false, sh := false, s := false }

theorem witness_CacheAccesses :
    let page : Page := { ppn := 0xABCDE7, c := true, acc := 3 }
    (∀ s ∈ ([cached 0x101, cached 0x501] : List State), is605 s = false ∧ s.plat.busFault = [] ∧ s.cmu.wbuf = [] ∧
      cacheHit s 0x12345678 true = true ∧ cacheHit s 0x22345678 true = false ∧
      (tagAt s ((0x12345698#32).toNat / 32 % 2048)).v = false) ∧
    (cached 0x101).cmu.cm = false ∧ (cached 0x501).cmu.cm = true ∧ misaligned 0x12345678 .double = false ∧
    page.address 0x12345678 = 0xABCDE7678 := by decide +kernel

/-- A load miss brings in the line, and a later load finds it there, whatever memory holds by then (21_mmu_cache.md R622). -/
theorem test_cached_load :
    let r := readMem (withM { oneEntry with cmu := { oneEntry.cmu with scr := 0x101 } } 0xABCDC5678 [0x11223344]) 0x0B 0x12345678 .word
    r.2 = some 0x11223344 ∧ cacheHit r.1 0x12345678 true = true ∧
      (readMem (withM r.1 0xABCDC5678 [0]) 0x0B 0x12345678 .word).2 = some 0x11223344 := by decide +kernel

/-- Three buffers in use, the last of another bank; a drain with and without an error. -/
theorem witness_WriteBuffers :
    let b : WriteBuffer := { bank := 0, pa := 0xFFFFFFFF8, bytes := [1, 2, 3, 4, 5, 6, 7, 8] }
    let c : WriteBuffer := { bank := 1, pa := 0x2000, bytes := [9] }
    let f : BusFault := { lo := 0x2000, hi := 0x2000, kind := .bus, onRead := false, onWrite := true }
    let s : State := { withMmu with cmu := { withMmu.cmu with wbuf := [b, b, c] } }
    let u : State := { s with plat := { s.plat with busFault := [f] }, cmu := { s.cmu with wbuf := [c] } }
    s.cmu.wbuf.length < 4 ∧ (∀ b ∈ s.cmu.wbuf, b.bytes.length ≤ 8) ∧ s.cmu.wbuf = b :: [b, c] ∧
      busError s true b.pa b.bytes.length = none ∧ busError u true c.pa c.bytes.length = some .bus ∧
      u.cmu.afsr.getLsbD 0 = false ∧ s.plat.busFault = [] ∧ (∀ b ∈ s.cmu.wbuf, b.pa + b.bytes.length ≤ 2 ^ 36) := by
  decide +kernel

/-- A CY7C605 in copy-back mode with memory reflection and one modified line, the last of the cache. -/
def snooping : State :=
  setMpTag (setTag { withMmu with plat := { withMmu.plat with cmu := .cy7c605 }, cmu := { withMmu.cmu with scr := 0xC01 } } 0x7FF
    { va := 0x1234, cxn := 3, v := true, m := false, sh := false, s := false }) 0x7FF
    { pa := 0xABCDEF, v := true, sh := false, m := true }

theorem witness_Snooping :
    let x (k : SnoopKind) : Snoop := { kind := k, line := 0xABCDEF#24 ++ 0x7F#7, superset := 0xF }
    is605 snooping = true ∧ snooping.cmu.cm = true ∧ snooping.cmu.mr = true ∧ (x .cr).kind = .cr ∧
      ((x .cr).superset ++ (x .cr).line.extractLsb' 0 7).toNat = 0x7FF ∧ (mptagAt snooping 0x7FF).v = true ∧
      (mptagAt snooping 0x7FF).pa = (x .ci).line.extractLsb' 7 24 ∧ (mptagAt snooping 0x7FF).m = true ∧
      (mptagAt snooping 0x7FF).pa ≠ (0x123456#24 ++ 0x7F#7).extractLsb' 7 24 := by decide +kernel

/-- A coherent read makes the line shared and clean; a coherent invalidate makes it invalid (21_mmu_cache.md R628). -/
theorem test_snoop :
    let x (k : SnoopKind) : Snoop := { kind := k, line := 0xABCDEF#24 ++ 0x7F#7, superset := 0xF }
    mptagAt (snoop snooping (x .cr)) 0x7FF = { pa := 0xABCDEF, v := true, sh := true, m := false } ∧
      (mptagAt (snoop snooping (x .ci)) 0x7FF).v = false ∧ (tagAt (snoop snooping (x .ci)) 0x7FF).v = false := by decide +kernel

/-- The boot-mode CMU, another one, and multichip operation with an address inside and outside. -/
theorem witness_UntranslatedAccesses : Cmu.bm { Cmu.reset with scr := 0x4000 } = true ∧ Cmu.bm { Cmu.reset with scr := 0 } = false ∧
    Cmu.me { Cmu.reset with scr := 0 } = false ∧ Cmu.answers .reset 0 = true ∧ Cmu.answers { Cmu.reset with boot := false } 0 = false ∧
    Cmu.answers { Cmu.reset with scr := 0x00480000 } 0x10000 = true ∧
    Cmu.answers { Cmu.reset with scr := 0x00480000 } 0x20000 = false := by decide +kernel

end Sys2Proof.Tests
end

section
/-! PROOF. The condition codes of the arithmetic and logical instructions (41_arith_logic_shift.md R171 to R174): first what
the instructions with icc do where no delayed write is pending, then what the formulas of the codes say about the operands
as numbers, then the statements. -/
namespace Sys2Proof.Claims
open Sys2Proof.Machine

/-! ## The instructions that write icc -/

section
variable (s : State) (rd rs1 : Reg) (o : RegOrImm)

theorem exec_addcc : exec (.addcc rd rs1 o) s = arithCc (fun a b => a + b) iccAdd rd rs1 o s := rfl

theorem exec_addxcc : exec (.addxcc rd rs1 o) s = arithCc (fun a b => a + b + carryWord s) iccAdd rd rs1 o s := rfl

theorem exec_taddcc : exec (.taddcc rd rs1 o) s =
    arithCc (fun a b => a + b) (fun a b res => (iccAdd a b res).withTag a b) rd rs1 o s := rfl

theorem exec_taddcctv : exec (.taddcctv rd rs1 o) s = arithTv (fun a b => a + b) iccAdd rd rs1 o s := rfl

theorem exec_subcc : exec (.subcc rd rs1 o) s = arithCc (fun a b => a - b) iccSub rd rs1 o s := rfl

theorem exec_subxcc : exec (.subxcc rd rs1 o) s = arithCc (fun a b => a - b - carryWord s) iccSub rd rs1 o s := rfl

theorem exec_tsubcc : exec (.tsubcc rd rs1 o) s =
    arithCc (fun a b => a - b) (fun a b res => (iccSub a b res).withTag a b) rd rs1 o s := rfl

theorem exec_tsubcctv : exec (.tsubcctv rd rs1 o) s = arithTv (fun a b => a - b) iccSub rd rs1 o s := rfl

theorem exec_andcc : exec (.andcc rd rs1 o) s =
    arithCc (fun a b => a &&& b) (fun _ _ res => iccLogic res) rd rs1 o s := rfl

theorem exec_andncc : exec (.andncc rd rs1 o) s =
    arithCc (fun a b => a &&& ~~~b) (fun _ _ res => iccLogic res) rd rs1 o s := rfl

theorem exec_orcc : exec (.orcc rd rs1 o) s =
    arithCc (fun a b => a ||| b) (fun _ _ res => iccLogic res) rd rs1 o s := rfl

theorem exec_orncc : exec (.orncc rd rs1 o) s =
    arithCc (fun a b => a ||| ~~~b) (fun _ _ res => iccLogic res) rd rs1 o s := rfl

theorem exec_xorcc : exec (.xorcc rd rs1 o) s =
    arithCc (fun a b => a ^^^ b) (fun _ _ res => iccLogic res) rd rs1 o s := rfl

theorem exec_xnorcc : exec (.xnorcc rd rs1 o) s =
    arithCc (fun a b => ~~~(a ^^^ b)) (fun _ _ res => iccLogic res) rd rs1 o s := rfl

end

section
variable {s : State} {op : Word → Word → Word} {flags : Word → Word → Word → Icc}

/-- The shared form of the instructions that write icc (R170). -/
theorem arithCc_eq (h : Settled s) (rd rs1 : Reg) (o : RegOrImm) :
    arithCc op flags rd rs1 o s =
      .next (flagged s rd (op (reg s rs1) (arg s o)) (flags (reg s rs1) (arg s o) (op (reg s rs1) (arg s o)))) := by
  simp only [arithCc, readReg_eq h, operand2_eq h, setIcc_finish_eq h]

/-- icc of a logical result: N and Z of it, V and C clear (R173). -/
theorem iccLogic_eq (r : Word) :
    iccLogic r = { n := r.getLsbD 31, z := decide (r = 0), v := false, c := false } := rfl

/-- The tag term looks at the low two bits of both operands (R174). -/
theorem tagged_eq (a b : Word) : tagged a b = tagTerm a b := by
  have low_ne_zero (x : Word) : x.extractLsb' 0 2 ≠ 0 ↔ x.toNat % 4 ≠ 0 := by
    simp [BitVec.toNat_eq, BitVec.extractLsb'_toNat]
  simp only [tagged, tagTerm, low_ne_zero, Bool.decide_or]

theorem withTag_eq (i : Icc) (a b : Word) : i.withTag a b = { i with v := i.v || tagTerm a b } := by
  rw [Icc.withTag, tagged_eq]

/-- The shared form of the trapping tagged instructions (R185): the result is written only where V is 0. -/
theorem arithTv_eq (h : Settled s) (rd rs1 : Reg) (o : RegOrImm) :
    let a := reg s rs1
    let b := arg s o
    let i := flags a b (op a b)
    arithTv op flags rd rs1 o s =
      if i.v || tagTerm a b then .next (trapped s 10) else .next (flagged s rd (op a b) { i with v := false }) := by
  intro a b i
  simp only [arithTv, readReg_eq h, operand2_eq h, setIcc_finish_eq h, raise_eq h, withTag_eq]
  by_cases hv : (i.v || tagTerm a b) = true
  · rw [if_pos hv, if_pos hv]; rfl
  · rw [if_neg hv, if_neg hv, Bool.eq_false_of_not_eq_true hv]

end

/-! ## The codes as facts about numbers -/

/-- Bit 31, all that the formulas of R171 and R172 look at, tells the upper half of the unsigned numbers. -/
theorem bit31_eq (x : Word) : x.getLsbD 31 = decide (2 ^ 31 ≤ x.toNat) := BitVec.msb_eq_decide x

/-- The signed value in a form that shares its one case distinction with `bit31_eq`. -/
theorem toInt_eq (x : Word) : x.toInt = if 2 ^ 31 ≤ x.toNat then (x.toNat : ℤ) - 2 ^ 32 else (x.toNat : ℤ) := by
  rw [BitVec.toInt_eq_toNat_cond]
  split <;> split <;> omega

theorem carry_le_one (s : State) : (carry s).toNat ≤ 1 := by
  unfold carry; split <;> decide

section
variable (a b c : Word)

/-- C of an addition is the carry out of bit 31 of the full sum (R171). -/
theorem addCodes_c (hc : c.toNat ≤ 1) :
    (addCodes a b (a + b + c)).c = decide (2 ^ 32 ≤ a.toNat + b.toNat + c.toNat) := by
  have ha := a.isLt
  have hb := b.isLt
  rw [Bool.eq_iff_iff]
  simp only [addCodes, bit31_eq, BitVec.toNat_add, Bool.or_eq_true, Bool.and_eq_true, Bool.not_eq_true',
    decide_eq_true_eq, decide_eq_false_iff_not]
  omega

/-- V of an addition is the signed overflow of the full sum (R171). -/
theorem addCodes_v (hc : c.toNat ≤ 1) :
    (addCodes a b (a + b + c)).v = decide (a.toInt + b.toInt + c.toNat ≠ (a + b + c).toInt) := by
  have ha := a.isLt
  have hb := b.isLt
  rw [Bool.eq_iff_iff]
  simp only [addCodes, bit31_eq, toInt_eq, BitVec.toNat_add, Bool.or_eq_true, Bool.and_eq_true,
    Bool.not_eq_true', decide_eq_true_eq, decide_eq_false_iff_not]
  omega

/-- C of a subtraction is the borrow, without wrap of the subtrahend and the carry in (R172). -/
theorem subCodes_c (hc : c.toNat ≤ 1) :
    (subCodes a b (a - b - c)).c = decide (a.toNat < b.toNat + c.toNat) := by
  have ha := a.isLt
  have hb := b.isLt
  rw [Bool.eq_iff_iff]
  simp only [subCodes, bit31_eq, BitVec.toNat_sub, Bool.or_eq_true, Bool.and_eq_true, Bool.not_eq_true',
    decide_eq_true_eq, decide_eq_false_iff_not]
  omega

/-- V of a subtraction is the signed overflow of the full difference (R172). -/
theorem subCodes_v (hc : c.toNat ≤ 1) :
    (subCodes a b (a - b - c)).v = decide (a.toInt - b.toInt - c.toNat ≠ (a - b - c).toInt) := by
  have ha := a.isLt
  have hb := b.isLt
  rw [Bool.eq_iff_iff]
  simp only [subCodes, bit31_eq, toInt_eq, BitVec.toNat_sub, Bool.or_eq_true, Bool.and_eq_true,
    Bool.not_eq_true', decide_eq_true_eq, decide_eq_false_iff_not]
  omega

end

/-! ## The statements -/

/-- Settles O15: the results by the shared forms, the codes by the number facts, the sum without the carry being that with
carry 0. -/
theorem additionConditionCodes : Obligations.AdditionConditionCodes := by
  intro s rd rs1 o h a b c i x tv
  have hc : c.toNat ≤ 1 := carry_le_one s
  refine ⟨?addcc, ?addxcc, ?taddcc, ?taddcctv, ?carryOut, addCodes_c a b c hc, ?overflow, addCodes_v a b c hc⟩
  case addcc => rw [exec_addcc, arithCc_eq h, iccAdd_eq]
  case addxcc => rw [exec_addxcc, arithCc_eq h, iccAdd_eq, carryWord_eq h]
  case taddcc => rw [exec_taddcc, arithCc_eq h, iccAdd_eq, withTag_eq]
  case taddcctv => rw [exec_taddcctv, arithTv_eq h, iccAdd_eq]
  case carryOut => simpa using addCodes_c a b 0 (by decide)
  case overflow => simpa using addCodes_v a b 0 (by decide)

/-- Settles O16: as for additions, with the borrow in place of the carry out. -/
theorem subtractionConditionCodes : Obligations.SubtractionConditionCodes := by
  intro s rd rs1 o h a b c i x tv
  have hc : c.toNat ≤ 1 := carry_le_one s
  refine ⟨?subcc, ?subxcc, ?tsubcc, ?tsubcctv, ?borrow, subCodes_c a b c hc, ?overflow, subCodes_v a b c hc⟩
  case subcc => rw [exec_subcc, arithCc_eq h, iccSub_eq]
  case subxcc => rw [exec_subxcc, arithCc_eq h, iccSub_eq, carryWord_eq h]
  case tsubcc => rw [exec_tsubcc, arithCc_eq h, iccSub_eq, withTag_eq]
  case tsubcctv => rw [exec_tsubcctv, arithTv_eq h, iccSub_eq]
  case borrow => simpa using subCodes_c a b 0 (by decide)
  case overflow => simpa using subCodes_v a b 0 (by decide)

/-- Settles O17: each of the six is the shared form with the codes of `iccLogic_eq`; XNORcc complements the exclusive or
where the statement complements the second operand. -/
theorem logicalConditionCodes : Obligations.LogicalConditionCodes := by
  intro s rd rs1 o h a b p hp
  simp only [List.mem_cons, List.not_mem_nil, or_false] at hp
  obtain rfl | rfl | rfl | rfl | rfl | rfl := hp
  · rw [exec_andcc, arithCc_eq h, iccLogic_eq]
  · rw [exec_andncc, arithCc_eq h, iccLogic_eq]
  · rw [exec_orcc, arithCc_eq h, iccLogic_eq]
  · rw [exec_orncc, arithCc_eq h, iccLogic_eq]
  · rw [exec_xorcc, arithCc_eq h, iccLogic_eq]
  · rw [exec_xnorcc, arithCc_eq h, iccLogic_eq, BitVec.not_xor_right]

end Sys2Proof.Claims
end

section
/-! PROOF. Decoding and encoding (30_encoding.md): the fields of an encoded word, one decoding rule per format, then the
round trip for every instruction and the words of no row. -/
namespace Sys2Proof.Claims
open Sys2Proof.Machine

/-! ## The fields of an encoded word (30_encoding.md R81, R82) -/

section
variable (op : BitVec 2) (rd : Reg) (op3 : BitVec 6) (rs1 : Reg) (low : BitVec 14)

theorem extractLsb'_format3 : (format3 op rd op3 rs1 low).extractLsb' 30 2 = op ∧
    (format3 op rd op3 rs1 low).extractLsb' 25 5 = rd ∧ (format3 op rd op3 rs1 low).extractLsb' 25 4 = rd.extractLsb' 0 4 ∧
    (format3 op rd op3 rs1 low).extractLsb' 19 6 = op3 ∧ (format3 op rd op3 rs1 low).extractLsb' 14 5 = rs1 := by
  refine ⟨?_, ?_, ?_, ?_, ?_⟩ <;>
    (apply BitVec.eq_of_getLsbD_eq; intro i hi
     simp only [format3, BitVec.getLsbD_extractLsb', BitVec.getLsbD_append, hi, decide_true, Bool.true_and]
     interval_cases i <;> simp)

@[simp] theorem opField_format3 : opField (format3 op rd op3 rs1 low) = op.toNat := by
  rw [opField, (extractLsb'_format3 ..).1]

@[simp] theorem rdField_format3 : rdField (format3 op rd op3 rs1 low) = rd := (extractLsb'_format3 ..).2.1

@[simp] theorem condField_format3 : condField (format3 op rd op3 rs1 low) = rd.toNat % 16 := by
  simp [condField, (extractLsb'_format3 ..).2.2.1, BitVec.extractLsb'_toNat]

@[simp] theorem op3Field_format3 : op3Field (format3 op rd op3 rs1 low) = op3.toNat := by
  rw [op3Field, (extractLsb'_format3 ..).2.2.2.1]

@[simp] theorem rs1Field_format3 : rs1Field (format3 op rd op3 rs1 low) = rs1 := (extractLsb'_format3 ..).2.2.2.2

/-- The fields of the low 14 bits. -/
theorem extractLsb'_format3_low {k n : Nat} (h : k + n ≤ 14) :
    (format3 op rd op3 rs1 low).extractLsb' k n = low.extractLsb' k n := by
  refine BitVec.eq_of_getLsbD_eq fun i hi => ?_
  simp only [format3, BitVec.getLsbD_extractLsb', BitVec.getLsbD_append]
  rw [if_pos (by omega)]

@[simp] theorem iField_format3 : iField (format3 op rd op3 rs1 low) = low.getLsbD 13 := by
  simp only [iField, format3, BitVec.getLsbD_append]; rfl
end

section
variable (op : BitVec 2) (rd : Reg) (op3 : BitVec 6) (rs1 : Reg)

theorem low_fields (h : BitVec 9) (l : Reg) :
  (h ++ l : BitVec 14).extractLsb' 5 9 = h ∧  (h ++ l : BitVec 14).extractLsb' 0 5 = l := by
  refine ⟨?_, ?_⟩ <;>
    (apply BitVec.eq_of_getLsbD_eq; intro i hi
     simp only [BitVec.getLsbD_extractLsb', BitVec.getLsbD_append, hi, decide_true, Bool.true_and]
     interval_cases i <;> simp)

@[simp] theorem opfField_format3 (opf : BitVec 9) (rs2 : Reg) : opfField (format3 op rd op3 rs1 (opf ++ rs2)) = opf :=
  (extractLsb'_format3_low _ _ _ _ _ (by decide)).trans (low_fields opf rs2).1

@[simp] theorem rs2Field_format3 (opf : BitVec 9) (rs2 : Reg) : rs2Field (format3 op rd op3 rs1 (opf ++ rs2)) = rs2 :=
  (extractLsb'_format3_low _ _ _ _ _ (by decide)).trans (low_fields opf rs2).2

@[simp] theorem asiField_format3 (asi : Asi) (rs2 : Reg) :
    asiField (format3 op rd op3 rs1 (0#1 ++ asi ++ rs2)) = asi := by
  refine (extractLsb'_format3_low _ _ _ _ _ (by decide)).trans (BitVec.eq_of_getLsbD_eq fun i hi => ?_)
  simp only [BitVec.getLsbD_extractLsb', BitVec.getLsbD_append, hi, decide_true, Bool.true_and]
  interval_cases i <;> simp

@[simp] theorem getLsbD_alternate_low (asi : Asi) (rs2 : Reg) : (0#1 ++ asi ++ rs2 : BitVec 14).getLsbD 13 = false := by
  simp only [BitVec.getLsbD_append]; rfl

/-- A sign-extended constant in its range (R83). -/
theorem toInt_ofInt_13 {v : Int} (h1 : -4096 ≤ v) (h2 : v ≤ 4095) : (BitVec.ofInt 13 v).toInt = v := by
  rw [BitVec.toInt_ofInt, Int.bmod_eq_of_le (by norm_num; omega) (by norm_num; omega)]

theorem toInt_ofInt_22 {v : Int} (h1 : -2097152 ≤ v) (h2 : v ≤ 2097151) : (BitVec.ofInt 22 v).toInt = v := by
  rw [BitVec.toInt_ofInt, Int.bmod_eq_of_le (by norm_num; omega) (by norm_num; omega)]

@[simp] theorem operand2Field_format3 {o : RegOrImm} (h : o.wellFormed = true) :
    operand2Field (format3 op rd op3 rs1 (encodeOperand2 o)) = o := by
  cases o with
  | reg n => 
    have hi : (0#9 ++ n : BitVec 14).getLsbD 13 = false := by simp only [BitVec.getLsbD_append]; rfl
    simp only [operand2Field, iField_format3, encodeOperand2, hi, rs2Field_format3]; rfl
  | imm v =>
    have hi : (1#1 ++ BitVec.ofInt 13 v : BitVec 14).getLsbD 13 = true := by simp only [BitVec.getLsbD_append]; rfl
    have hv : (1#1 ++ BitVec.ofInt 13 v : BitVec 14).extractLsb' 0 13 = BitVec.ofInt 13 v := by
      apply BitVec.eq_of_getLsbD_eq; intro i hi
      rw [BitVec.getLsbD_extractLsb', BitVec.getLsbD_append]; simp [hi]
    have hr : -4096 ≤ v ∧ v ≤ 4095 := by simpa [RegOrImm.wellFormed] using h
    simp only [operand2Field, iField_format3, encodeOperand2, hi, if_true, simm13Field,
      extractLsb'_format3_low _ _ _ _ _ (show 0 + 13 ≤ 14 by decide), hv, toInt_ofInt_13 hr.1 hr.2]

@[simp] theorem countField_format3 (c : ShiftCount) : countField (format3 op rd op3 rs1 (encodeCount c)) = c := by
  cases c with
  | reg n =>
    have hi : (0#9 ++ n : BitVec 14).getLsbD 13 = false := by simp only [BitVec.getLsbD_append]; rfl
    simp only [countField, iField_format3, encodeCount, hi, rs2Field_format3]; rfl
  | imm n =>
    have hi : (1#1 ++ 0#8 ++ n : BitVec 14).getLsbD 13 = true := by simp only [BitVec.getLsbD_append]; rfl
    have hn : rs2Field (format3 op rd op3 rs1 (1#1 ++ 0#8 ++ n)) = n := rs2Field_format3 op rd op3 rs1 (1#1 ++ 0#8) n
    simp only [countField, iField_format3, encodeCount, hi, if_true, hn]

theorem decode_format3_arith (low : BitVec 14) :
    decode (format3 2#2 rd op3 rs1 low) = decodeFormat3Arith (format3 2#2 rd op3 rs1 low) := by
  simp only [decode, opField_format3]; rfl

theorem decode_format3_mem (low : BitVec 14) :
    decode (format3 3#2 rd op3 rs1 low) = decodeFormat3Mem (format3 3#2 rd op3 rs1 low) := by
  simp only [decode, opField_format3]; rfl
end

theorem extractLsb'_format2a (rd : Reg) (op2 : BitVec 3) (v : BitVec 22) :
    (format2a rd op2 v).extractLsb' 30 2 = 0#2 ∧ (format2a rd op2 v).extractLsb' 25 5 = rd ∧
      (format2a rd op2 v).extractLsb' 22 3 = op2 ∧ (format2a rd op2 v).extractLsb' 0 22 = v := by
  refine ⟨?_, ?_, ?_, ?_⟩ <;>
    (apply BitVec.eq_of_getLsbD_eq; intro i hi
     simp only [format2a, BitVec.getLsbD_extractLsb', BitVec.getLsbD_append, hi, decide_true, Bool.true_and]
     interval_cases i <;> simp)

theorem format2b_eq (a : Bool) (cond : BitVec 4) (op2 : BitVec 3) (d : Int) :
    format2b a cond op2 d = format2a (BitVec.ofBool a ++ cond) op2 (BitVec.ofInt 22 d) := by
  apply BitVec.eq_of_getLsbD_eq; intro i hi
  simp only [format2a, format2b, BitVec.getLsbD_append]
  interval_cases i <;> simp

theorem decode_format2a (rd : Reg) (op2 : BitVec 3) (v : BitVec 22) :
    decode (format2a rd op2 v) = decodeFormat2 (format2a rd op2 v) := by
  simp only [decode, opField, (extractLsb'_format2a ..).1]; rfl

theorem op2Field_format2a (rd : Reg) (op2 : BitVec 3) (v : BitVec 22) : op2Field (format2a rd op2 v) = op2.toNat := by
  rw [op2Field, (extractLsb'_format2a ..).2.2.1]

section
variable (a : Bool) (cond : BitVec 4) (op2 : BitVec 3)

theorem decode_format2b (d : Int) : decode (format2b a cond op2 d) = decodeFormat2 (format2b a cond op2 d) := by
  rw [format2b_eq, decode_format2a]

@[simp] theorem op2Field_format2b (d : Int) : op2Field (format2b a cond op2 d) = op2.toNat := by
  rw [format2b_eq, op2Field_format2a]

@[simp] theorem condField_format2b (d : Int) : condField (format2b a cond op2 d) = cond.toNat := by
  refine congrArg BitVec.toNat (BitVec.eq_of_getLsbD_eq fun i hi => ?_)
  simp only [format2b, BitVec.getLsbD_extractLsb', BitVec.getLsbD_append, hi, decide_true, Bool.true_and]
  interval_cases i <;> simp

@[simp] theorem annulField_format2b (d : Int) : annulField (format2b a cond op2 d) = a := by
  simp only [annulField, format2b, BitVec.getLsbD_append]; simp

@[simp] theorem disp22Field_format2b {d : Int} (h : disp22WellFormed d = true) :
    disp22Field (format2b a cond op2 d) = d := by
  have hr : -2097152 ≤ d ∧ d ≤ 2097151 := by simpa [disp22WellFormed] using h
  rw [disp22Field, format2b_eq, (extractLsb'_format2a ..).2.2.2, toInt_ofInt_22 hr.1 hr.2]
end

theorem decode_call (d : BitVec 30) : decode (1#2 ++ d) = .instr (.call d) := by
  have ho : (1#2 ++ d : Word).extractLsb' 30 2 = 1#2 := by
    apply BitVec.eq_of_getLsbD_eq; intro i hi
    simp only [BitVec.getLsbD_extractLsb', BitVec.getLsbD_append]
    interval_cases i <;> simp
  have hd : (1#2 ++ d : Word).extractLsb' 0 30 = d := by
    apply BitVec.eq_of_getLsbD_eq; intro i hi
    rw [BitVec.getLsbD_extractLsb', BitVec.getLsbD_append]; simp [hi]
  simp only [decode, opField, ho, disp30Field, hd]; rfl

/-! ## Decoding by format: what remains is the row of the table -/

section
variable {rd rs1 rs2 : Reg} {op3 : BitVec 6} {i : Instr}

theorem decode_mem_operand2 {o : RegOrImm} (h : o.wellFormed = true)
    (row : ∀ w, op3Field w = op3.toNat → rdField w = rd → rs1Field w = rs1 → operand2Field w = o →
      decodeFormat3Mem w = .instr i) : decode (format3 3#2 rd op3 rs1 (encodeOperand2 o)) = .instr i := by
  rw [decode_format3_mem]
  exact row _ (op3Field_format3 ..) (rdField_format3 ..) (rs1Field_format3 ..) (operand2Field_format3 _ _ _ _ h)

theorem decode_mem_alternate {asi : Asi}
    (row : ∀ w, op3Field w = op3.toNat → rdField w = rd → rs1Field w = rs1 → rs2Field w = rs2 → asiField w = asi →
      decodeFormat3Mem w = alternateForm w i) : decode (format3 3#2 rd op3 rs1 (0#1 ++ asi ++ rs2)) = .instr i := by
  rw [decode_format3_mem, row _ (op3Field_format3 ..) (rdField_format3 ..) (rs1Field_format3 ..)
    (rs2Field_format3 _ _ _ _ (0#1 ++ asi) rs2) (asiField_format3 ..), alternateForm, iField_format3, getLsbD_alternate_low]
  rfl

theorem decode_arith_operand2 {o : RegOrImm} (h : o.wellFormed = true)
    (row : ∀ w, op3Field w = op3.toNat → condField w = rd.toNat % 16 → rdField w = rd → rs1Field w = rs1 →
      operand2Field w = o → decodeFormat3Arith w = .instr i) :
    decode (format3 2#2 rd op3 rs1 (encodeOperand2 o)) = .instr i := by
  rw [decode_format3_arith]
  exact row _ (op3Field_format3 ..) (condField_format3 ..) (rdField_format3 ..) (rs1Field_format3 ..)
    (operand2Field_format3 _ _ _ _ h)

theorem decode_arith_count {c : ShiftCount}
    (row : ∀ w, op3Field w = op3.toNat → rdField w = rd → rs1Field w = rs1 → countField w = c →
      decodeFormat3Arith w = .instr i) : decode (format3 2#2 rd op3 rs1 (encodeCount c)) = .instr i := by
  rw [decode_format3_arith]
  exact row _ (op3Field_format3 ..) (rdField_format3 ..) (rs1Field_format3 ..) (countField_format3 ..)

theorem decode_arith_opf {opf : BitVec 9}
    (row : ∀ w, op3Field w = op3.toNat → opfField w = opf → rdField w = rd → rs1Field w = rs1 → rs2Field w = rs2 →
      decodeFormat3Arith w = .instr i) : decode (format3 2#2 rd op3 rs1 (opf ++ rs2)) = .instr i := by
  rw [decode_format3_arith]
  exact row _ (op3Field_format3 ..) (opfField_format3 ..) (rdField_format3 ..) (rs1Field_format3 ..) (rs2Field_format3 ..)

theorem decode_branch {a : Bool} {cond : BitVec 4} {op2 : BitVec 3} {d : Int} (h : disp22WellFormed d = true)
    (row : ∀ w, op2Field w = op2.toNat → condField w = cond.toNat → annulField w = a → disp22Field w = d →
      decodeFormat2 w = .instr i) : decode (format2b a cond op2 d) = .instr i := by
  rw [decode_format2b]
  exact row _ (op2Field_format2b ..) (condField_format2b ..) (annulField_format2b ..) (disp22Field_format2b _ _ _ h)

theorem decode_imm22 {op2 : BitVec 3} {v : BitVec 22}
    (row : ∀ w, op2Field w = op2.toNat → rdField w = rd → imm22Field w = v → decodeFormat2 w = .instr i) :
    decode (format2a rd op2 v) = .instr i := by
  rw [decode_format2a]
  exact row _ (op2Field_format2a ..) (extractLsb'_format2a ..).2.1 (extractLsb'_format2a ..).2.2.2

end

/-- The encoder's word of a well-formed instruction decodes to it: format by format, the row of the decoder's table. -/
theorem decode_encode (i : Instr) (h : i.wellFormed = true) : decode (encode i) = .instr i := by
  cases i
  case call d => exact decode_call d
  case sethi rd v =>
    refine decode_imm22 fun w h2 hd hv => ?_
    subst hd hv; rw [decodeFormat2, h2]; rfl
  case unimp v =>
    refine decode_imm22 fun w h2 _ hv => ?_
    subst hv; rw [decodeFormat2, h2]; rfl
  case ldsb | ldsh | ldub | lduh | ld | ldd | stb | sth | st | std | ldf | lddf | stf | stdf | ldstub | swap | ldc | lddc |
      stc | stdc =>
    refine decode_mem_operand2 h fun w h3 hd hs ho => ?_
    subst hd hs ho; rw [decodeFormat3Mem, h3]; rfl
  case ldfsr | stfsr | stdfq | ldcsr | stcsr | stdcq =>
    refine decode_mem_operand2 h fun w h3 _ hs ho => ?_
    subst hs ho; rw [decodeFormat3Mem, h3]; rfl
  case ldsba | ldsha | lduba | lduha | lda | ldda | stba | stha | sta | stda | ldstuba | swapa =>
    refine decode_mem_alternate fun w h3 hd hs ht ha => ?_
    subst hd hs ht ha; rw [decodeFormat3Mem, h3]; rfl
  case sll | srl | sra =>
    refine decode_arith_count fun w h3 hd hs hc => ?_
    subst hd hs hc; rw [decodeFormat3Arith, h3]; rfl
  case rdy | rdpsr | rdwim | rdtbr =>
    refine decode_arith_opf (opf := 0#9) (rs2 := 0#5) fun w h3 _ hd _ _ => ?_
    subst hd; rw [decodeFormat3Arith, h3]; rfl
  case cpop1 | cpop2 =>
    refine decode_arith_opf fun w h3 hf hd hs ht => ?_
    subst hf hd hs ht; rw [decodeFormat3Arith, h3]; rfl
  case fcmps | fcmpd | fcmpx | fcmpes | fcmped | fcmpex =>
    refine decode_arith_opf fun w h3 hf hd hs ht => ?_
    subst hd hs ht; rw [decodeFormat3Arith, h3]; change decodeFPop2 w = _; rw [decodeFPop2, hf]; rfl
  case fmovs | fnegs | fabss | fsqrts | fsqrtd | fsqrtx | fadds | faddd | faddx | fsubs | fsubd | fsubx | fmuls | fmuld |
      fmulx | fdivs | fdivd | fdivx | fitos | fdtos | fxtos | fitod | fstod | fxtod | fitox | fstox | fdtox | fstoi | fdtoi |
      fxtoi =>
    refine decode_arith_opf fun w h3 hf hd hs ht => ?_
    subst hd hs ht; rw [decodeFormat3Arith, h3]; change decodeFPop1 w = _; rw [decodeFPop1, hf]; rfl
  case tn | te | tle | tl | tleu | tcs | tneg | tvs | ta | tne | tg | tge | tgu | tcc | tpos | tvc =>
    refine decode_arith_operand2 h fun w h3 hc _ hs ho => ?_
    subst hs ho; rw [decodeFormat3Arith, h3]; change decodeTicc w = _; rw [decodeTicc, hc]; rfl
  case bn | be | ble | bl | bleu | bcs | bneg | bvs | ba | bne | bg | bge | bgu | bcc | bpos | bvc =>
    refine decode_branch h fun w h2 hc ha hd => ?_
    subst ha hd; rw [decodeFormat2, h2]; change decodeBicc w = _; rw [decodeBicc, hc]; rfl
  case fbn | fbne | fblg | fbul | fbl | fbug | fbg | fbu | fba | fbe | fbue | fbge | fbuge | fble | fbule | fbo =>
    refine decode_branch h fun w h2 hc ha hd => ?_
    subst ha hd; rw [decodeFormat2, h2]; change decodeFBfcc w = _; rw [decodeFBfcc, hc]; rfl
  case cbn | cb123 | cb12 | cb13 | cb1 | cb23 | cb2 | cb3 | cba | cb0 | cb03 | cb02 | cb023 | cb01 | cb013 | cb012 =>
    refine decode_branch h fun w h2 hc ha hd => ?_
    subst ha hd; rw [decodeFormat2, h2]; change decodeCBccc w = _; rw [decodeCBccc, hc]; rfl
  case rett | wry | wrpsr | wrwim | wrtbr | iflush =>
    refine decode_arith_operand2 h fun w h3 _ _ hs ho => ?_
    subst hs ho; rw [decodeFormat3Arith, h3]; rfl
  all_goals
    refine decode_arith_operand2 h fun w h3 _ hd hs ho => ?_
    subst hd hs ho; rw [decodeFormat3Arith, h3]; rfl

/-- Settles O5. -/
theorem decodeOfEncode : Obligations.DecodeOfEncode := fun i h => by
  rw [decodeBytes_wordBytes, decode_encode i h]

/-! ## The words of no row (30_encoding.md R94) -/

section
variable (w : Word)

theorem opField_eq : opField w = w.toNat / 2 ^ 30 := by
  have := w.isLt
  simp only [opField, BitVec.extractLsb'_toNat, Nat.shiftRight_eq_div_pow]; omega

theorem op2Field_eq : op2Field w = w.toNat / 2 ^ 22 % 8 := by
  simp only [op2Field, BitVec.extractLsb'_toNat, Nat.shiftRight_eq_div_pow]

theorem op3Field_eq : op3Field w = w.toNat / 2 ^ 19 % 64 := by
  simp only [op3Field, BitVec.extractLsb'_toNat, Nat.shiftRight_eq_div_pow]

theorem condField_lt : condField w < 16 := BitVec.isLt _

/-- Every cond is a row (R93). -/
theorem decodeBicc_ne_reject (r : Reject) : decodeBicc w ≠ .reject r := by
  have h := condField_lt w
  unfold decodeBicc
  generalize condField w = n at h ⊢
  interval_cases n <;> exact nofun

theorem decodeFBfcc_ne_reject (r : Reject) : decodeFBfcc w ≠ .reject r := by
  have h := condField_lt w
  unfold decodeFBfcc
  generalize condField w = n at h ⊢
  interval_cases n <;> exact nofun

theorem decodeCBccc_ne_reject (r : Reject) : decodeCBccc w ≠ .reject r := by
  have h := condField_lt w
  unfold decodeCBccc
  generalize condField w = n at h ⊢
  interval_cases n <;> exact nofun

theorem decodeTicc_ne_reject (r : Reject) : decodeTicc w ≠ .reject r := by
  have h := condField_lt w
  unfold decodeTicc
  generalize condField w = n at h ⊢
  interval_cases n <;> exact nofun

/-- An opf of no row is an FPop still. -/
theorem decodeFPop1_eq_reject {r : Reject} (h : decodeFPop1 w = .reject r) : r = .unassignedFpop := by
  unfold decodeFPop1 at h; split at h <;> cases h; rfl

theorem decodeFPop2_eq_reject {r : Reject} (h : decodeFPop2 w = .reject r) : r = .unassignedFpop := by
  unfold decodeFPop2 at h; split at h <;> cases h; rfl

theorem decodeFormat2_reserved : decodeFormat2 w = .reject .reserved ↔ op2Field w ∈ [1, 3, 5] := by
  have hlt : op2Field w < 8 := BitVec.isLt _
  unfold decodeFormat2
  split <;> simp_all [decodeBicc_ne_reject, decodeFBfcc_ne_reject, decodeCBccc_ne_reject]
  omega

theorem decodeFormat3Arith_reserved : decodeFormat3Arith w = .reject .reserved ↔ op3Field w ∈
    [0x09, 0x0A, 0x0B, 0x0D, 0x0E, 0x0F, 0x19, 0x1A, 0x1B, 0x1D, 0x1E, 0x1F, 0x2C, 0x2D, 0x2E, 0x2F, 0x3E, 0x3F] := by
  have hlt : op3Field w < 64 := BitVec.isLt _
  have h1 : decodeFPop1 w ≠ .reject .reserved := fun h => nomatch decodeFPop1_eq_reject w h
  have h2 : decodeFPop2 w ≠ .reject .reserved := fun h => nomatch decodeFPop2_eq_reject w h
  have h3 := decodeTicc_ne_reject w .reserved
  simp only [List.mem_cons, List.not_mem_nil, or_false]
  constructor
  · intro h
    unfold decodeFormat3Arith at h
    split at h
    case h_47 => simp only [imp_false] at *; omega
    all_goals simp [h1, h2, h3] at h
  · intro h
    rcases h with h | h | h | h | h | h | h | h | h | h | h | h | h | h | h | h | h | h <;>
      (rw [decodeFormat3Arith, h]; rfl)

theorem alternateForm_eq_reject (i : Instr) (r : Reject) :
    alternateForm w i = .reject r ↔ r = .alternateImmediate ∧ iField w = true := by
  cases h : iField w <;> simp [alternateForm, h, eq_comm]

theorem decodeFormat3Mem_reserved : decodeFormat3Mem w = .reject .reserved ↔ op3Field w ∈
    [0x08, 0x0B, 0x0C, 0x0E, 0x18, 0x1B, 0x1C, 0x1E, 0x22, 0x28, 0x29, 0x2A, 0x2B, 0x2C, 0x2D, 0x2E, 0x2F, 0x32,
     0x38, 0x39, 0x3A, 0x3B, 0x3C, 0x3D, 0x3E, 0x3F] := by
  have hlt : op3Field w < 64 := BitVec.isLt _
  simp only [List.mem_cons, List.not_mem_nil, or_false]
  constructor
  · intro h
    unfold decodeFormat3Mem at h
    split at h
    case h_39 => simp only [imp_false] at *; omega
    all_goals simp [alternateForm_eq_reject] at h
  · intro h
    rcases h with h | h | h | h | h | h | h | h | h | h | h | h | h | h | h | h | h | h | h | h | h | h | h | h | h | h <;>
      (rw [decodeFormat3Mem, h]; rfl)

theorem decodeFormat3Mem_alternate : decodeFormat3Mem w = .reject .alternateImmediate ↔ iField w = true ∧
    op3Field w ∈ [0x10, 0x11, 0x12, 0x13, 0x14, 0x15, 0x16, 0x17, 0x19, 0x1A, 0x1D, 0x1F] := by
  simp only [List.mem_cons, List.not_mem_nil, or_false]
  constructor
  · intro h
    unfold decodeFormat3Mem at h
    split at h <;> simp_all [alternateForm_eq_reject]
  · rintro ⟨hi, h⟩
    rcases h with h | h | h | h | h | h | h | h | h | h | h | h <;>
      simp only [decodeFormat3Mem, h, alternateForm, hi, if_true]

theorem decodeFormat2_ne_alternate : decodeFormat2 w ≠ .reject .alternateImmediate := by
  unfold decodeFormat2
  split <;> simp [decodeBicc_ne_reject, decodeFBfcc_ne_reject, decodeCBccc_ne_reject]

theorem decodeFormat3Arith_ne_alternate : decodeFormat3Arith w ≠ .reject .alternateImmediate := by
  have h1 : decodeFPop1 w ≠ .reject .alternateImmediate := fun h => nomatch decodeFPop1_eq_reject w h
  have h2 : decodeFPop2 w ≠ .reject .alternateImmediate := fun h => nomatch decodeFPop2_eq_reject w h
  unfold decodeFormat3Arith
  split <;> simp [h1, h2, decodeTicc_ne_reject]

end

/-- Settles O6: by the op field, then by the table of its format. -/
theorem reservedWords : Obligations.ReservedWords := by
  intro w
  have hlt : opField w < 4 := BitVec.isLt _
  rw [← opField_eq, ← op2Field_eq, ← op3Field_eq]
  unfold decode
  obtain h | h | h | h : opField w = 0 ∨ opField w = 1 ∨ opField w = 2 ∨ opField w = 3 := by omega
  · simp [h, decodeFormat2_reserved, decodeFormat2_ne_alternate]
  · simp [h]
  · simp [h, decodeFormat3Arith_reserved, decodeFormat3Arith_ne_alternate]
  · simp [h, decodeFormat3Mem_reserved, decodeFormat3Mem_alternate, iField]

end Sys2Proof.Claims
end

section
/-! PROOF. The forms of the instructions: each of the 184 meanings is one of a few shared shapes, over which the rules of the
whole machine are then proved (no instruction ends in a fault or a refusal, so every form answers a next state). -/
namespace Sys2Proof.Claims
open Sys2Proof.Machine

/-- What the meaning of an instruction is in the state `s`, as one of the shared shapes of the model; `w` tells whether the
instruction may write memory. -/
inductive Form (s : State) : (w : Bool) → Result → Prop
  | finish {w} (rd : Reg) (v : Word) : Form s w (.next (finish s rd v))
  | flags {w} (rd : Reg) (v : Word) (c : Icc) : Form s w (.next (setIcc (Machine.finish s rd v) c))
  | tagged {w} (op : Word → Word → Word) (flags : Word → Word → Word → Icc) (rd rs1 : Reg) (o : RegOrImm) :
      Form s w (arithTv op flags rd rs1 o s)
  | multiply {w} (rd : Reg) (v y : Word) (c : Icc) : Form s w (.next { setIcc (Machine.finish s rd v) c with y := y })
  | branch {w} (always taken annul : Bool) (d : Int) : Form s w (.next (Machine.branch always taken annul d s))
  | branchFcc {w} (c : PairCond) (annul : Bool) (d : Int) : Form s w (Machine.branchFcc c annul d s)
  | branchCcc {w} (c : PairCond) (annul : Bool) (d : Int) : Form s w (Machine.branchCcc c annul d s)
  | trapIcc {w} (c : IccCond) (rs1 : Reg) (o : RegOrImm) : Form s w (Machine.trapIcc c rs1 o s)
  | call {w} (d : BitVec 30) : Form s w (execCall d s)
  | jmpl {w} (rd rs1 : Reg) (o : RegOrImm) : Form s w (execJmpl rd rs1 o s)
  | rett {w} (rs1 : Reg) (o : RegOrImm) : Form s w (execRett rs1 o s)
  | save {w} (rd rs1 : Reg) (o : RegOrImm) : Form s w (execSave rd rs1 o s)
  | restore {w} (rd rs1 : Reg) (o : RegOrImm) : Form s w (execRestore rd rs1 o s)
  | load {w} (conv : DWord → Word) (asi : Asi) (ea : Word) (size : Size) (rd : Reg) : Form s w (loadReg conv asi ea size rd s)
  | loadPair {w} (asi : Asi) (ea : Word) (rd : Reg) : Form s w (Machine.loadPair asi ea rd s)
  | store (asi : Asi) (ea : Word) (size : Size) (v : DWord) : Form s true (storeWith asi ea size v s id)
  | exchange (asi : Asi) (ea : Word) (size : Size) (v : DWord) (rd : Reg) :
      Form s true (exchangeWith asi ea size v rd s)
  | privileged {w} {r : Result} (h : Form s w r) : Form s w (Machine.privileged s r)
  | fpop {b} (w : Word) (e : FpOutcome) : Form s b (Machine.fpop w e s)
  | fpLoad {w} (ea : Word) (size : Size) (k : State → DWord → State)
      (hk : ∀ u v, ∃ (f : Vector Word 32) (x : Fsr), k u v = { u with f := f, fsr := x }) : Form s w (Machine.fpLoad ea size s k)
  | fpStore (ea : Word) (size : Size) (v : DWord) (k : State → State) (hk : k = id ∨ k = advanceQueue) :
      Form s true (Machine.fpStore ea size v s k)
  | cpop {b} (w : Word) : Form s b (Machine.cpop w s)
  | cpLoad {w} (dest : List Reg) (ea : Word) (size : Size) (k : CpState → DWord → CpState)
      (hk : ∀ c v, (k c v).mode = c.mode ∧ (k c v).cq = c.cq ∧
        (c.ccc = cpCccOfCsr c.csr → (k c v).ccc = cpCccOfCsr (k c v).csr)) : Form s w (Machine.cpLoad dest ea size s k)
  | cpStore (ea : Word) (size : Size) (v : State → DWord) (k : State → State)
      (hk : k = id ∨ k = fun u => withCp u (cpQueueStored s.draws u.cp)) : Form s true (Machine.cpStore ea size v s k)
  | wry {w} (rs1 : Reg) (o : RegOrImm) : Form s w (execWry rs1 o s)
  | wrpsr {w} (rs1 : Reg) (o : RegOrImm) : Form s w (execWrpsr rs1 o s)
  | wrwim {w} (v : BitVec 8) :
      Form s w (Machine.privileged s (.next (advance { s with wim := v, wimWin := s.wimWin.write s.wim v })))
  | wrtba {w} (v : BitVec 20) : Form s w (Machine.privileged s
      (.next (advance { s with tbr := { s.tbr with tba := v }, tbaWin := s.tbaWin.write s.tbr.tba v })))
  | advance {w} : Form s w (.next (Machine.advance s))
  | trap {w} (t : TrapType) : Form s w (.next (raise s t))

variable {s : State}

theorem privileged_of_not (k : Result) :
    (if !supervisor s then .next (raise s ttPrivileged) else k) = privileged s k := by
  unfold privileged; cases supervisor s <;> rfl

theorem form_iflush {w : Bool} (rs1 : Reg) (o : RegOrImm) : Form s w (execIflush rs1 o s) := by
  unfold execIflush; split
  · exact .advance
  · exact .trap _

theorem form_stdfq (rs1 : Reg) (o : RegOrImm) : Form s true (execStdfq rs1 o s) := by
  rw [execStdfq, privileged_of_not]
  exact .privileged (.fpStore _ _ _ _ (.inr rfl))

theorem form_stdcq (rs1 : Reg) (o : RegOrImm) : Form s true (execStdcq rs1 o s) := by
  rw [execStdcq, privileged_of_not]
  exact .privileged (.cpStore _ _ _ _ (.inr rfl))

/-- Every instruction is of one of the forms. -/
theorem exec_form (i : Instr) (s : State) : Form s (storing i) (exec i s) := by
  cases i
  case add | addx | sub | subx | and | andn | or | orn | xor | xnor | sethi | sll | srl | sra | rdy => exact .finish ..
  case addcc | addxcc | subcc | subxcc | taddcc | tsubcc | andcc | andncc | orcc | orncc | xorcc | xnorcc => exact .flags ..
  case taddcctv | tsubcctv => exact .tagged ..
  case mulscc => exact .multiply ..
  case bn | be | ble | bl | bleu | bcs | bneg | bvs | ba | bne | bg | bge | bgu | bcc | bpos | bvc => exact .branch ..
  case fbn | fbne | fblg | fbul | fbl | fbug | fbg | fbu | fba | fbe | fbue | fbge | fbuge | fble | fbule | fbo =>
    exact .branchFcc ..
  case cbn | cb123 | cb12 | cb13 | cb1 | cb23 | cb2 | cb3 | cba | cb0 | cb03 | cb02 | cb023 | cb01 | cb013 | cb012 =>
    exact .branchCcc ..
  case tn rs1 o => exact (.trapIcc .n rs1 o : Form s _ (execTn rs1 o s))
  case ta rs1 o => exact (.trapIcc .a rs1 o : Form s _ (execTa rs1 o s))
  case te | tle | tl | tleu | tcs | tneg | tvs | tne | tg | tge | tgu | tcc | tpos | tvc => exact .trapIcc ..
  case call => exact .call ..
  case jmpl => exact .jmpl ..
  case rett => exact .rett ..
  case save => exact .save ..
  case restore => exact .restore ..
  case ldsb rd rs1 o => exact (.load .. : Form s _ (execLdsb rd rs1 o s))
  case ldub rd rs1 o => exact (.load .. : Form s _ (execLdub rd rs1 o s))
  case ldsh | lduh | ld => exact .load ..
  case ldd => exact .loadPair ..
  case ldsba | ldsha | lduba | lduha | lda => exact .privileged (.load ..)
  case ldda => exact .privileged (.loadPair ..)
  case stb rd rs1 o => exact (.store _ _ .byte _ : Form s _ (execStb rd rs1 o s))
  case sth rd rs1 o => exact (.store .. : Form s _ (execSth rd rs1 o s))
  case st rd rs1 o => exact (.store .. : Form s _ (execSt rd rs1 o s))
  case std rd rs1 o => exact (.store .. : Form s _ (execStd rd rs1 o s))
  case stba rd rs1 rs2 a => exact (.privileged (.store ..) : Form s _ (execStba rd rs1 rs2 a s))
  case stha rd rs1 rs2 a => exact (.privileged (.store ..) : Form s _ (execStha rd rs1 rs2 a s))
  case sta rd rs1 rs2 a => exact (.privileged (.store ..) : Form s _ (execSta rd rs1 rs2 a s))
  case stda rd rs1 rs2 a => exact (.privileged (.store ..) : Form s _ (execStda rd rs1 rs2 a s))
  case ldstub rd rs1 o => exact (.exchange .. : Form s _ (execLdstub rd rs1 o s))
  case swap rd rs1 o => exact (.exchange .. : Form s _ (execSwap rd rs1 o s))
  case ldstuba rd rs1 rs2 a => exact (.privileged (.exchange ..) : Form s _ (execLdstuba rd rs1 rs2 a s))
  case swapa rd rs1 rs2 a => exact (.privileged (.exchange ..) : Form s _ (execSwapa rd rs1 rs2 a s))
  case rdpsr | rdwim | rdtbr => exact .privileged (.finish ..)
  case wry => exact .wry ..
  case wrpsr => exact .wrpsr ..
  case wrwim => exact .wrwim ..
  case wrtbr => exact .wrtba ..
  case iflush rs1 o => exact form_iflush rs1 o
  case unimp => exact .trap ..
  case ldf rd _ _ => exact .fpLoad _ _ _ fun u v => ⟨_, u.fsr, rfl⟩
  case lddf rd _ _ => exact .fpLoad _ _ _ fun u v => ⟨_, u.fsr, rfl⟩
  case ldfsr => exact .fpLoad _ _ _ fun u v => ⟨u.f, _, rfl⟩
  case stf | stdf | stfsr => exact .fpStore _ _ _ _ (.inl rfl)
  case stdfq rs1 o => exact form_stdfq rs1 o
  case ldc rd rs1 o =>
    exact (.cpLoad _ _ _ (fun c v => writeC c rd (lowWord v)) fun _ _ => ⟨rfl, rfl, id⟩ : Form s _ (execLdc rd rs1 o s))
  case lddc rd rs1 o =>
    exact (.cpLoad _ _ _ (fun c v => writeC (writeC c (cpPair rd) (highWord v)) (cpPair rd + 1) (lowWord v))
      fun _ _ => ⟨rfl, rfl, id⟩ : Form s _ (execLddc rd rs1 o s))
  case ldcsr rs1 o =>
    exact (.cpLoad _ _ _ (fun c v => withCsr c (lowWord v)) fun _ _ => ⟨rfl, rfl, fun _ => rfl⟩ : Form s _ (execLdcsr rs1 o s))
  case stc rd rs1 o => exact (.cpStore _ _ _ _ (.inl rfl) : Form s _ (execStc rd rs1 o s))
  case stdc rd rs1 o => exact (.cpStore _ _ _ _ (.inl rfl) : Form s _ (execStdc rd rs1 o s))
  case stcsr rs1 o => exact (.cpStore _ _ _ _ (.inl rfl) : Form s _ (execStcsr rs1 o s))
  case stdcq rs1 o => exact form_stdcq rs1 o
  case cpop1 | cpop2 => exact .cpop ..
  all_goals exact .fpop ..

end Sys2Proof.Claims
end

section
/-! PROOF. The invariant of the machine: a form of it that holds within a step too, one rule per operation of the model that
keeps it, the forms of the instructions, and the other turns of a step. -/
namespace Sys2Proof.Claims
open Sys2Proof.Machine

/-! ## Word-aligned addresses (10_state.md R28) -/

theorem aligned_iff (a : Word) : a.extractLsb' 0 2 = 0 ↔ a.toNat % 4 = 0 := by
  rw [BitVec.toNat_eq]; simp [BitVec.extractLsb'_toNat]

theorem pcAligned_iff (s : State) : s.pcAligned = true ↔ s.pc.toNat % 4 = 0 ∧ s.npc.toNat % 4 = 0 := by
  simp only [State.pcAligned, Bool.and_eq_true, decide_eq_true_eq, aligned_iff]

section
variable {a b : Word}

theorem mod4_add (ha : a.toNat % 4 = 0) (hb : b.toNat % 4 = 0) : (a + b).toNat % 4 = 0 := by
  rw [BitVec.toNat_add]; omega

theorem mod4_mul (b : Word) : ((4 : Word) * b).toNat % 4 = 0 := by
  have h4 : (4 : Word).toNat = 4 := rfl
  rw [BitVec.toNat_mul, h4]; omega

theorem mod4_add4 (ha : a.toNat % 4 = 0) : (a + 4).toNat % 4 = 0 := mod4_add ha rfl

theorem mod4_add8 (ha : a.toNat % 4 = 0) : (a + 8).toNat % 4 = 0 := mod4_add ha rfl

/-- A free address is word-aligned (R242). -/
theorem mod4_drawAddress (s : State) (u : Use) : (drawAddress s u).toNat % 4 = 0 := by
  rw [← aligned_iff]
  apply BitVec.eq_of_getLsbD_eq; intro i hi
  simp only [drawAddress, BitVec.getLsbD_extractLsb', BitVec.getLsbD_and]
  interval_cases i <;> simp

/-- A trap vector is word-aligned (R420). -/
theorem mod4_tbrWord (tba : BitVec 20) (t : TrapType) : (tbrWord tba t).toNat % 4 = 0 := by
  rw [← aligned_iff]
  apply BitVec.eq_of_getLsbD_eq; intro i hi
  simp only [tbrWord, BitVec.getLsbD_extractLsb', BitVec.getLsbD_append]
  interval_cases i <;> simp

theorem mod4_relativeTarget {s : State} (hp : s.pc.toNat % 4 = 0) (hb : s.baseAligned = true) (d : Word) :
    (relativeTarget s d).toNat % 4 = 0 :=
  mod4_add (mod4_add hp ((aligned_iff _).1 (by simpa [State.baseAligned] using hb))) (mod4_mul d)

theorem mod4_of_not_misaligned (h : ¬ misaligned a .word = true) : a.toNat % 4 = 0 := by
  simpa [misaligned_word] using h

end

/-! ## The invariant within a step -/

/-- A record of delayed writes with no write exactly when its count is 0, and a count of at most `n`. -/
def Within {α : Type} (n : Nat) (w : Delayed α) : Prop := (w.writes = [] ↔ w.left = 0) ∧ w.left ≤ n

theorem canonical_iff {α : Type} (w : Delayed α) : w.canonical = true ↔ Within 3 w := by
  simp only [Delayed.canonical, Within, Bool.and_eq_true, beq_iff_eq, decide_eq_true_eq, and_congr_left_iff]
  intro _
  rw [Bool.eq_iff_iff, List.isEmpty_iff, decide_eq_true_eq]

theorem within_none {α : Type} (n : Nat) : Within n (Delayed.none : Delayed α) := by simp [Within, Delayed.none]

theorem within_write {α : Type} {n : Nat} (h : 4 ≤ n) (w : Delayed α) (x y : α) : Within n (w.write x y) := by
  simp [Within, Delayed.write, h]

theorem within_tick {α : Type} {n : Nat} {w : Delayed α} (h : Within (n + 1) w) : Within n w.tick := by
  obtain ⟨h1, h2⟩ := h
  unfold Delayed.tick
  split
  · exact within_none n
  · refine ⟨?_, ?_⟩ <;> simp only [h1] <;> omega

/-- The invariant with bounds: `n` instructions remain at most in a record of delayed writes, and `n + 1` for a changed word.
`Sound 3` is the invariant between two steps, `Sound 4` holds before the end of an instruction's step. -/
structure Sound (n : Nat) (s : State) : Prop where
  pc : s.pc.toNat % 4 = 0
  npc : s.npc.toNat % 4 = 0
  stored : s.stored = true
  psrWin : Within n s.psrWin
  wimWin : Within n s.wimWin
  tbaWin : Within n s.tbaWin
  yWin : Within n s.yWin
  edits : ∀ e ∈ s.codeHist, 1 ≤ e.left ∧ e.left ≤ n + 1
  queue : s.queueMode = true
  ec : s.ecFixed = true
  base : s.baseAligned = true
  cp : s.cpSound = true

theorem inv_iff (s : State) : s.Inv ↔ Sound 3 s := by
  have hw : s.windows = true ↔ Within 3 s.psrWin ∧ Within 3 s.wimWin ∧ Within 3 s.tbaWin ∧ Within 3 s.yWin := by
    simp only [State.windows, Bool.and_eq_true, canonical_iff, and_assoc]
  have he : s.edits = true ↔ ∀ e ∈ s.codeHist, 1 ≤ e.left ∧ e.left ≤ 3 + 1 := by simp [State.edits]
  rw [State.Inv, pcAligned_iff, hw, he]
  constructor
  · rintro ⟨⟨a, b⟩, c, ⟨d, e, f, g⟩, h, i, j, k, l⟩; exact ⟨a, b, c, d, e, f, g, h, i, j, k, l⟩
  · rintro ⟨a, b, c, d, e, f, g, h, i, j, k, l⟩; exact ⟨⟨a, b⟩, c, ⟨d, e, f, g⟩, h, i, j, k, l⟩

theorem Within.mono {α : Type} {m n : Nat} {w : Delayed α} (h : Within m w) (hmn : m ≤ n) : Within n w :=
  ⟨h.1, Nat.le_trans h.2 hmn⟩

theorem Sound.mono {m n : Nat} {s : State} (h : Sound m s) (hmn : m ≤ n) : Sound n s :=
  { h with
    psrWin := h.psrWin.mono hmn, wimWin := h.wimWin.mono hmn, tbaWin := h.tbaWin.mono hmn, yWin := h.yWin.mono hmn
    edits := fun e he => ⟨(h.edits e he).1, by have := (h.edits e he).2; omega⟩ }

/-! ## One rule per operation -/

section
variable {n : Nat} {s t : State} (h : Sound n s)
include h

theorem sound_regs (r : Vector Word 136) : Sound n { s with regs := r } := { h with }

theorem sound_advance : Sound n (advance s) := { h with pc := h.npc, npc := mod4_add4 h.npc }

theorem sound_setRegIn (w : BitVec 3) (r : Reg) (v : Word) : Sound n (setRegIn s w r v) := by
  rw [setRegIn_eq]; exact sound_regs h _

theorem sound_writeReg (u : Use) (r : Reg) (v : Word) : Sound n (writeReg s u r v) := by
  unfold writeReg; split <;> exact sound_setRegIn h ..

theorem sound_finish (rd : Reg) (v : Word) : Sound n (finish s rd v) := sound_advance (sound_writeReg h ..)

/-- A change of the PSR that leaves EC. -/
theorem sound_psr {p : Psr} (hp : p.ec = s.psr.ec) : Sound n { s with psr := p } :=
  { h with ec := by have := h.ec; simp only [State.ecFixed] at this ⊢; rwa [hp] }

theorem sound_setIcc (c : Icc) : Sound n (setIcc s c) := sound_psr h rfl

theorem sound_enterTrap (t : TrapType) : Sound n (enterTrap s t) := by
  rw [enterTrap_eq]
  have hv := mod4_tbrWord (useTba s .vectorTba) t
  exact { h with
    pc := hv, npc := mod4_add4 hv, psrWin := within_none n, wimWin := within_none n, tbaWin := within_none n, yWin := within_none n }

theorem sound_raise (t : TrapType) : Sound n (raise s t) := by
  unfold raise enterErrorMode; split
  · exact sound_enterTrap h t
  · exact { sound_enterTrap h t with }

theorem sound_transfer {p q : Word} (hp : p.toNat % 4 = 0) (hq : q.toNat % 4 = 0) : Sound n (transfer s p q) := by
  unfold transfer; split
  · exact { h with pc := mod4_drawAddress .., npc := mod4_drawAddress .. }
  · exact { h with pc := hp, npc := hq }

theorem sound_branch (always taken annul : Bool) (d : Int) : Sound n (branch always taken annul d s) := by
  have ht := mod4_relativeTarget h.pc h.base (dispWord d)
  unfold branch
  dsimp only
  split
  · split
    · exact sound_transfer h ht (mod4_add4 ht)
    · exact { sound_transfer h h.npc ht with }
  · split
    · exact sound_transfer h (mod4_add4 h.npc) (mod4_add8 h.npc)
    · exact { sound_transfer h h.npc (mod4_add4 h.npc) with }

theorem sound_accessed (hn : 4 ≤ n) (ha : Accessed s t) : Sound n t := by
  obtain ⟨he, hs, hc⟩ := ha
  have edits : ∀ e ∈ t.codeHist, 1 ≤ e.left ∧ e.left ≤ n + 1 := fun e hm => by
    rcases hc e hm with hm | hm
    · exact h.edits e hm
    · omega
  have stored := hs h.stored
  rw [he] at stored edits ⊢
  exact { h with stored := stored, edits := edits }

theorem sound_fsr (f : Vector Word 32) (x : Fsr) : Sound n { s with f := f, fsr := x } := { h with }

end

/-! ## The floating-point unit's mode and queue (44_floating_point.md R284, R294, R296, R299) -/

theorem queueMode_iff (s : State) :
    s.queueMode = true ↔ (s.fpMode = .execution → s.fq = []) ∧ s.fq.length ≤ Config.fqDepth := by
  simp only [State.queueMode, Bool.and_eq_true, Bool.or_eq_true, decide_eq_true_eq, List.isEmpty_iff, ne_eq,
    ← imp_iff_not_or]

section
variable {n : Nat} {s : State} (h : Sound n s)
include h

/-- Out of execution mode the queue may hold what it held. -/
theorem sound_fpMode {m : UnitMode} (hm : m ≠ .execution) : Sound n { s with fpMode := m } :=
  { h with queue := (queueMode_iff _).2 ⟨fun he => absurd he hm, ((queueMode_iff _).1 h.queue).2⟩ }

theorem sound_raiseFpException : Sound n (raiseFpException s) := sound_raise (sound_fpMode h (by decide)) _

theorem sound_sequenceError : Sound n (sequenceError s) :=
  sound_fsr (sound_fpMode h (m := .pending) (by decide)) s.f { s.fsr with ftt := 4 }

theorem sound_fpExcept (hm : s.fpMode = .execution) (w : Word) (t : BitVec 3) : Sound n (fpExcept s w t) := by
  have hq : s.fq = [] := ((queueMode_iff _).1 h.queue).1 hm
  exact { h with queue := (queueMode_iff _).2 ⟨nofun, by simp [fpExcept, hq, Config.fqDepth]⟩ }

theorem sound_applyWrite (w : FpWrite) : Sound n (applyWrite s w) := by
  cases w
  case fcc => exact sound_fsr h ..
  all_goals exact sound_fsr h _ s.fsr

theorem sound_fpComplete (hm : s.fpMode = .execution) (w : Word) (e : FpOutcome) : Sound n (fpComplete s w e) := by
  cases e with
  | unimplemented => exact sound_fpExcept h hm _ _
  | unfinished => exact sound_fpExcept (sound_fsr h s.f { s.fsr with cexc := .none }) hm _ _
  | done raised v =>
    unfold fpComplete; dsimp only; split
    · exact sound_fpExcept (sound_fsr h s.f { s.fsr with cexc := raised }) hm _ _
    · exact sound_fsr (sound_applyWrite h v) _ _

theorem sound_advanceQueue : Sound n (advanceQueue s) := by
  have hq := ((queueMode_iff _).1 h.queue).2
  unfold advanceQueue; split
  · refine { h with queue := (queueMode_iff _).2 ⟨fun he => ?_, ?_⟩ }
    · dsimp only at he ⊢; split at he
      · rename_i ht; simpa using ht
      · cases he
    · have : s.fq.tail.length ≤ s.fq.length := by simp
      exact Nat.le_trans this hq
  · exact h

end

/-! ## The coprocessor (45_coprocessor.md R340, R344) -/

/-- What `State.cpSound` says of the coprocessor: CCC are the bits of CSR, and out of execution mode the queue is not empty. -/
def CpSound (c : CpState) : Prop := c.ccc = cpCccOfCsr c.csr ∧ (c.mode = .execution ∨ c.cq ≠ [])

theorem cpSound_iff (s : State) : s.cpSound = true ↔ CpSound s.cp := by
  simp [State.cpSound, CpSound, Bool.or_eq_true]

theorem cpSound_withRegisters {c : CpState} (h : CpSound c) (r : CpRegs) : CpSound (cpWithRegisters c r) := ⟨rfl, h.2⟩

theorem cpSound_cpEnd {c : CpState} (h : CpSound c) (draws i : Nat) : CpSound (cpEnd draws i c) := by
  by_cases hb : cpBusy c = true
  · obtain ⟨e, rest, r, hq, -, hc | hc⟩ := cpEnd_cases hb draws i <;> rw [hc]
    · exact ⟨rfl, .inr (by simp [cpWithRegisters, hq])⟩
    · exact ⟨rfl, .inl ((cpBusy_iff c).1 hb).1⟩
  · rwa [cpEnd_of_idle (by simpa using hb)]

theorem cpSound_cpEnds {c : CpState} (h : CpSound c) (draws n : Nat) : CpSound (cpEnds draws n c) := by
  induction n generalizing c with
  | zero => exact h
  | succ n ih => exact ih (cpSound_cpEnd h draws n)

theorem cpSound_cpAccept {c : CpState} (h : CpSound c) (draws : Nat) (e : QueueEntry) : CpSound (cpAccept draws e c) := by
  unfold cpAccept; split
  · rename_i hm; exact ⟨h.1, .inl hm⟩
  · rename_i hm
    have hq := h.2.resolve_left hm
    exact ⟨rfl, .inr (by dsimp only; split <;> simp [hq])⟩

theorem cpSound_cpQueueStored {c : CpState} (h : CpSound c) (hm : c.mode ≠ .pending) (draws : Nat) :
    CpSound (cpQueueStored draws c) := by
  obtain ⟨h1, h2⟩ := h
  unfold cpQueueStored
  refine ⟨h1, ?_⟩
  dsimp only
  generalize (if Config.cpQueueAdvances draws c then c.cq.tail else c.cq) = q
  rcases hmode : c.mode with _ | _ | _
  · exact .inl (by simp)
  · exact absurd hmode hm
  · cases q <;> simp

section
variable {n : Nat} {s : State} (h : Sound n s)
include h

theorem sound_withCp {c : CpState} (hc : CpSound c) : Sound n (withCp s c) := { h with cp := (cpSound_iff _).2 hc }

theorem Sound.cpSound : CpSound s.cp := (cpSound_iff _).1 h.cp

theorem sound_cpHeld : Sound n (cpHeld s) := by
  unfold cpHeld; split
  · exact sound_withCp h (cpSound_cpEnds h.cpSound _ _)
  · exact h

theorem sound_cpCompared : Sound n (cpCompared s) := sound_withCp h (cpSound_cpEnds h.cpSound _ _)

theorem sound_cpLoadTrapped : Sound n (cpLoadTrapped s) := by
  unfold cpLoadTrapped; split
  · exact sound_withCp h (cpSound_withRegisters h.cpSound _)
  · exact h

theorem sound_cpLoadAborted (dest : List Reg) : Sound n (cpLoadAborted dest s) := by
  obtain ⟨c, hc, -⟩ := cpLoadAborted_eq dest s
  rw [hc]; exact sound_withCp h h.cpSound

/-- Where the exception is pending the queue is not empty. -/
theorem sound_raiseCpException (hm : s.cp.mode = .pending) : Sound n (raiseCpException s) := by
  obtain ⟨h1, h2⟩ := h.cpSound
  refine sound_raise (sound_withCp h (c := { s.cp with mode := .exception }) ⟨h1, .inr ?_⟩) _
  exact h2.resolve_left (by simp [hm])

end

theorem cpLoadTrapped_mode (s : State) : (cpLoadTrapped s).cp.mode = s.cp.mode := by
  unfold cpLoadTrapped; split <;> rfl

end Sys2Proof.Claims
end

section
/-! PROOF. Every step keeps the invariant (70_reset_and_hazards.md section 2): the forms of the instructions, the fetch and the
end of a step, the resets and the other agents. -/
namespace Sys2Proof.Claims
open Sys2Proof.Machine

/-- The meaning `r` answers a next state, and that state has `P`. -/
def Answers (P : State → Prop) (r : Result) : Prop := ∃ t, r = .next t ∧ P t

theorem answers_next {P : State → Prop} {t : State} (h : P t) : Answers P (.next t) := ⟨t, rfl, h⟩

theorem Answers.elim {P : State → Prop} {r : Result} {t : State} (h : Answers P r) (e : r = .next t) : P t := by
  obtain ⟨u, hu, hp⟩ := h
  rw [e] at hu; cases hu; exact hp

section
variable {s : State} (h : Sound 4 s)
include h

/-! ## The accesses -/

theorem answers_loadWith (asi : Asi) (ea : Word) (size : Size) {k : State → DWord → State}
    (hk : ∀ {u : State}, Sound 4 u → ∀ v, Sound 4 (k u v)) : Answers (Sound 4) (loadWith asi ea size s k) := by
  have ha := sound_accessed h (Nat.le_refl 4) (accessed_readMem s asi ea size)
  unfold loadWith; split
  · exact answers_next (sound_raise h _)
  · split <;> rename_i e <;> rw [e] at ha
    · exact answers_next (sound_advance (hk ha _))
    · exact answers_next (sound_raise ha _)

theorem answers_storeWith (asi : Asi) (ea : Word) (size : Size) (v : DWord) {k : State → State}
    (hk : ∀ {u : State}, Accessed s u → Sound 4 (k u)) : Answers (Sound 4) (storeWith asi ea size v s k) := by
  have hw := accessed_writeMem s asi ea size v
  have ha := sound_accessed h (Nat.le_refl 4) hw
  unfold storeWith; split
  · exact answers_next (sound_raise h _)
  · split <;> rename_i e <;> rw [e] at ha hw
    · exact answers_next (sound_advance (hk hw))
    · exact answers_next (sound_raise ha _)

theorem answers_exchangeWith (asi : Asi) (ea : Word) (size : Size) (v : DWord) (rd : Reg) :
    Answers (Sound 4) (exchangeWith asi ea size v rd s) := by
  have ha := sound_accessed h (Nat.le_refl 4) (accessed_exchangeMem s asi ea size v)
  unfold exchangeWith; split
  · exact answers_next (sound_raise h _)
  · split <;> rename_i e <;> rw [e] at ha
    · exact answers_next (sound_finish ha ..)
    · exact answers_next (sound_raise ha _)

/-! ## The two units -/

theorem answers_fpop (w : Word) (e : FpOutcome) : Answers (Sound 4) (fpop w e s) := by
  unfold fpop; split
  · exact answers_next (sound_raise h _)
  · split
    · exact answers_next (sound_raiseFpException h)
    · exact answers_next (sound_advance (sound_sequenceError h))
    · rename_i hm; exact answers_next (sound_advance (sound_fpComplete h hm w e))

theorem answers_fpLoad (ea : Word) (size : Size) {k : State → DWord → State}
    (hk : ∀ u v, ∃ (f : Vector Word 32) (x : Fsr), k u v = { u with f := f, fsr := x }) :
    Answers (Sound 4) (fpLoad ea size s k) := by
  unfold fpLoad; split
  · exact answers_next (sound_raise h _)
  split
  · exact answers_next (sound_raise h _)
  split
  · exact answers_next (sound_raiseFpException h)
  · exact answers_next (sound_advance (sound_sequenceError h))
  · refine answers_loadWith h _ _ _ fun {u} hu v => ?_
    obtain ⟨f, x, e⟩ := hk u v
    rw [e]; exact sound_fsr hu f x

theorem answers_fpStore (ea : Word) (size : Size) (v : DWord) {k : State → State} (hk : k = id ∨ k = advanceQueue) :
    Answers (Sound 4) (fpStore ea size v s k) := by
  unfold fpStore; split
  · exact answers_next (sound_raise h _)
  split
  · exact answers_next (sound_raise h _)
  split
  · exact answers_next (sound_raiseFpException h)
  · refine answers_storeWith h _ _ _ _ fun {u} hu => ?_
    have ha := sound_accessed h (Nat.le_refl 4) hu
    rcases hk with rfl | rfl
    · exact ha
    · exact sound_advanceQueue ha

theorem answers_cpop (w : Word) : Answers (Sound 4) (cpop w s) := by
  have hh := sound_cpHeld h
  unfold cpop; dsimp only; split
  · exact answers_next (sound_raise h _)
  split
  · rename_i hm; exact answers_next (sound_raiseCpException hh hm)
  · exact answers_next (sound_advance (sound_withCp hh (cpSound_cpAccept hh.cpSound _ _)))

theorem answers_cpLoad (dest : List Reg) (ea : Word) (size : Size) {k : CpState → DWord → CpState}
    (hk : ∀ c v, (k c v).mode = c.mode ∧ (k c v).cq = c.cq ∧
      (c.ccc = cpCccOfCsr c.csr → (k c v).ccc = cpCccOfCsr (k c v).csr)) : Answers (Sound 4) (cpLoad dest ea size s k) := by
  have hh := sound_cpHeld h
  have hr := sound_accessed hh (Nat.le_refl 4) (accessed_readMem (cpHeld s) (dataAsi (cpHeld s)) ea size)
  unfold cpLoad; dsimp only; split
  · exact answers_next (sound_raise (sound_cpLoadTrapped h) _)
  split
  · exact answers_next (sound_raise (sound_cpLoadTrapped h) _)
  split
  · rename_i hm
    exact answers_next (sound_raiseCpException (sound_cpLoadTrapped hh) ((cpLoadTrapped_mode _).trans hm))
  split <;> rename_i u _ e <;> rw [e] at hr
  · rename_i v
    obtain ⟨hm, hq, hc⟩ := hk u.cp v
    obtain ⟨h1, h2⟩ := Sound.cpSound hr
    exact answers_next (sound_advance (sound_withCp hr ⟨hc h1, by rw [hm, hq]; exact h2⟩))
  · exact answers_next (sound_raise (sound_cpLoadAborted hr dest) _)

theorem answers_cpStore (ea : Word) (size : Size) (v : State → DWord) {k : State → State}
    (hk : k = id ∨ k = fun u => withCp u (cpQueueStored s.draws u.cp)) : Answers (Sound 4) (cpStore ea size v s k) := by
  have hh := sound_cpHeld h
  unfold cpStore; dsimp only; split
  · exact answers_next (sound_raise h _)
  split
  · exact answers_next (sound_raise h _)
  split
  · rename_i hm; exact answers_next (sound_raiseCpException hh hm)
  · rename_i hm
    refine answers_storeWith hh _ _ _ _ fun {u} hu => ?_
    have ha := sound_accessed hh (Nat.le_refl 4) hu
    rcases hk with rfl | rfl
    · exact ha
    · have hc : u.cp = (cpHeld s).cp := by rw [hu.1]
      exact sound_withCp ha (cpSound_cpQueueStored ha.cpSound (by rw [hc]; exact hm) _)

/-! ## The other forms -/

theorem answers_rett (rs1 : Reg) (o : RegOrImm) : Answers (Sound 4) (execRett rs1 o s) := by
  have he (t : TrapType) : Sound 4 (enterErrorMode s t) := { sound_enterTrap h t with }
  unfold execRett; dsimp only
  split
  · exact answers_next (sound_raise h _)
  split
  · exact answers_next (he _)
  split
  · exact answers_next (he _)
  split
  · exact answers_next (he _)
  · rename_i hm
    have hp := sound_psr h (p := { s.psr with
      et := true, s := if s.condDelay then s.psr.s else usePsr s Psr.ps .ps, cwp := useCwp s .cwp + 1 }) rfl
    exact answers_next (sound_transfer hp h.npc (mod4_of_not_misaligned hm))

theorem answers_jmpl (rd rs1 : Reg) (o : RegOrImm) : Answers (Sound 4) (execJmpl rd rs1 o s) := by
  unfold execJmpl; dsimp only; split
  · exact answers_next (sound_raise h _)
  · rename_i hm
    exact answers_next (sound_transfer (sound_writeReg h _ _ _) h.npc (mod4_of_not_misaligned hm))

theorem sound_moveWindow (w : BitVec 3) (rd rs1 : Reg) (o : RegOrImm) : Sound 4 (moveWindow w rd rs1 o s) :=
  sound_advance (sound_setRegIn (sound_psr h (p := { s.psr with cwp := w }) rfl) ..)

theorem answers_privileged {r : Result} (hr : Answers (Sound 4) r) : Answers (Sound 4) (privileged s r) := by
  unfold privileged; split
  · exact hr
  · exact answers_next (sound_raise h _)

theorem answers_wrpsr (rs1 : Reg) (o : RegOrImm) : Answers (Sound 4) (execWrpsr rs1 o s) := by
  unfold execWrpsr; dsimp only
  split
  · exact answers_next (sound_raise h _)
  · have hec : ({ s with psr := psrOfWord s (writeValue s rs1 o) } : State).ecFixed = true := by
      simp only [State.ecFixed, psrOfWord]
      cases s.plat.iu <;> simp
    exact answers_privileged h
      (answers_next (sound_advance { h with psrWin := within_write (Nat.le_refl 4) _ _ _, ec := hec }))

/-- Every form of an instruction keeps the invariant that holds within a step. -/
theorem answers_form {w : Bool} {r : Result} (hf : Form s w r) : Answers (Sound 4) r := by
  have hy := fun v => within_write (Nat.le_refl 4) s.yWin s.y v
  induction hf with
  | finish rd v => exact answers_next (sound_finish h rd v)
  | flags rd v c => exact answers_next (sound_setIcc (sound_finish h rd v) c)
  | tagged op flags rd rs1 o =>
    unfold arithTv; dsimp only; split
    · exact answers_next (sound_raise h _)
    · exact answers_next (sound_setIcc (sound_finish h _ _) _)
  | multiply rd v y c => exact answers_next { sound_setIcc (sound_finish h rd v) c with }
  | branch always taken annul d => exact answers_next (sound_branch h ..)
  | branchFcc c annul d =>
    unfold branchFcc; split
    · exact answers_next (sound_raise h _)
    split
    · exact answers_next (sound_raiseFpException h)
    · exact answers_next (sound_branch h ..)
  | branchCcc c annul d =>
    have hc := sound_cpCompared h
    unfold branchCcc; dsimp only; split
    · exact answers_next (sound_raise h _)
    split
    · rename_i hm; exact answers_next (sound_raiseCpException hc hm)
    · exact answers_next (sound_branch hc ..)
  | trapIcc c rs1 o =>
    unfold trapIcc; split
    · exact answers_next (sound_raise h _)
    · exact answers_next (sound_advance h)
  | call d => exact answers_next (sound_transfer (sound_writeReg h ..) h.npc (mod4_relativeTarget h.pc h.base _))
  | jmpl rd rs1 o => exact answers_jmpl h rd rs1 o
  | rett rs1 o => exact answers_rett h rs1 o
  | save rd rs1 o =>
    unfold execSave; dsimp only; split
    · exact answers_next (sound_raise h _)
    · exact answers_next (sound_moveWindow h ..)
  | restore rd rs1 o =>
    unfold execRestore; dsimp only; split
    · exact answers_next (sound_raise h _)
    · exact answers_next (sound_moveWindow h ..)
  | load conv asi ea size rd => exact answers_loadWith h asi ea size fun hu v => sound_writeReg hu ..
  | loadPair asi ea rd => exact answers_loadWith h asi ea .double fun hu v => sound_writeReg (sound_writeReg hu ..) ..
  | store asi ea size v => exact answers_storeWith h asi ea size v fun hu => sound_accessed h (Nat.le_refl 4) hu
  | exchange asi ea size v rd => exact answers_exchangeWith h asi ea size v rd
  | privileged _ ih => exact answers_privileged h ih
  | fpop w e => exact answers_fpop h w e
  | fpLoad ea size k hk => exact answers_fpLoad h ea size hk
  | fpStore ea size v k hk => exact answers_fpStore h ea size v hk
  | cpop w => exact answers_cpop h w
  | cpLoad dest ea size k hk => exact answers_cpLoad h dest ea size hk
  | cpStore ea size v k hk => exact answers_cpStore h ea size v hk
  | wry rs1 o => exact answers_next (sound_advance { h with yWin := hy _ })
  | wrpsr rs1 o => exact answers_wrpsr h rs1 o
  | wrwim v =>
    exact answers_privileged h (answers_next (sound_advance { h with wimWin := within_write (Nat.le_refl 4) _ _ _ }))
  | wrtba v =>
    exact answers_privileged h (answers_next (sound_advance { h with tbaWin := within_write (Nat.le_refl 4) _ _ _ }))
  | advance => exact answers_next (sound_advance h)
  | trap t => exact answers_next (sound_raise h t)

/-- The instruction at PC, before the end of its step. -/
theorem answers_instructionStep : Answers (Sound 4) (instructionStep s) := by
  have hf := sound_accessed h (Nat.le_refl 4) (accessed_fetch s)
  unfold instructionStep
  split <;> rename_i e <;> rw [e] at hf
  · exact answers_next (sound_raise hf _)
  split
  · exact answers_form hf (exec_form ..)
  · unfold execRejected; split
    · exact answers_fpop hf ..
    · exact answers_next (sound_raise hf _)

/-- The end of an instruction's step counts in the records (R511, R516). -/
theorem sound_endStep : Sound 3 (endStep s) :=
  { h with
    psrWin := within_tick h.psrWin, wimWin := within_tick h.wimWin, tbaWin := within_tick h.tbaWin, yWin := within_tick h.yWin
    edits := fun e he => by
      simp only [endStep, List.mem_filter, List.mem_map, decide_eq_true_eq] at he
      obtain ⟨⟨e', hm, rfl⟩, hp⟩ := he
      have := h.edits e' hm
      dsimp only at hp ⊢; omega }

end

/-! ## The other turns -/

section
variable {s : State} (h : Sound 3 s)
include h

theorem sound_endTurn : Sound 3 (endTurn s) := { h with }

/-- An access that leaves the record of changed code keeps the invariant between two steps. -/
theorem sound_accessed_of_codeHist {t : State} (ha : Accessed s t) (hc : t.codeHist = s.codeHist) : Sound 3 t := by
  obtain ⟨he, hs, -⟩ := ha
  have stored := hs h.stored
  rw [hc] at he
  rw [he] at stored ⊢
  exact { h with stored := stored }

/-- The reset of the IU, with a CMU that keeps its tags, its cache and the form of its buffers. -/
theorem sound_resetIu : Sound 3 (resetIu s) :=
  { pc := Nat.zero_mod 4, npc := (by decide : (4 : Word).toNat % 4 = 0), stored := h.stored, psrWin := within_none 3, wimWin := within_none 3, tbaWin := within_none 3,
    yWin := within_none 3, edits := nofun, queue := rfl, ec := h.ec, base := h.base, cp := h.cp }

/-- A CMU whose stored parts are as they were. -/
theorem sound_cmu {c : Cmu} (hd : c.data = s.cmu.data) (ht : c.tags = s.cmu.tags) (hm : c.mptags = s.cmu.mptags)
    (hw : c.wbuf = s.cmu.wbuf) : Sound 3 { s with cmu := c } :=
  sound_accessed_of_codeHist h (accessed_withCmu hd ht hm (buffered_congr hw)) rfl

theorem sound_powerOn : Sound 3 (powerOn s) := by
  obtain ⟨hm, hd, ht, hp, -⟩ := (stored_iff s).1 h.stored
  exact { h with
    stored := (stored_iff _).2 ⟨hm, hd, sparseWf_map_filter _ (fun e : Tag => { e with v := false }) _ ht,
      sparseWf_map_filter _ (fun e : MpTag => { e with v := false }) _ hp, rfl⟩ }

end

theorem drainOne_codeHist (s : State) : (drainOne s).codeHist = s.codeHist := by
  unfold drainOne; split
  · rfl
  · dsimp only; split <;> rfl

theorem invalidateLine_codeHist (s : State) (n : Nat) : (invalidateLine s n).codeHist = s.codeHist := by
  unfold invalidateLine; dsimp only; split <;> rfl

/-- A snooped transaction changes no record of changed code: the IU's own fetches and stores do (R516). -/
theorem snoop_codeHist (s : State) (x : Snoop) : (snoop s x).codeHist = s.codeHist := by
  have hline (b : Bool) : (if b then supplyLine s x else s).codeHist = s.codeHist := by cases b <;> rfl
  unfold snoop; dsimp only; split
  · split
    · exact hline _
    · rfl
  · rfl
  · exact (invalidateLine_codeHist ..).trans (hline _)
  · rfl
  · exact invalidateLine_codeHist ..
  · rfl
  · split
    · exact invalidateLine_codeHist ..
    · rfl

theorem sound_agentStep {s : State} (h : Sound 3 s) (a : Agent) : Sound 3 (agentStep s a) := by
  cases a with
  | coprocessor => exact sound_withCp h (cpSound_cpEnd h.cpSound _ _)
  | drain => exact sound_accessed_of_codeHist h (accessed_drainOne s) (drainOne_codeHist s)
  | snoop =>
    unfold agentStep; dsimp only; split
    · exact h
    · exact { sound_accessed_of_codeHist h (accessed_snoop s _) (snoop_codeHist s _) with }

/-- Settles O4: `Sound 3` at each of the nine turns of a step; an instruction's step goes through `Sound 4`. -/
theorem invariantKeptByEveryStep : Obligations.InvariantKeptByEveryStep := by
  intro s t hs ht
  rw [inv_iff] at hs ⊢
  unfold step at ht
  have next {u : State} (e : (.next u : Result) = .next t) (hu : Sound 3 u) : Sound 3 t := by cases e; exact hu
  split at ht
  · exact next ht (sound_endTurn (sound_powerOn hs))
  · exact next ht (sound_endTurn { hs with })
  · exact next ht (sound_endTurn (sound_resetIu hs))
  · exact next ht (sound_endTurn (sound_resetIu (sound_cmu hs rfl rfl rfl rfl)))
  · exact next ht (sound_endTurn (sound_resetIu (sound_cmu hs rfl rfl rfl rfl)))
  · cases ht
  · exact next ht (sound_endTurn (sound_agentStep hs _))
  · exact next ht { sound_enterTrap hs _ with }
  · obtain ⟨u, hu, hsu⟩ := answers_instructionStep (hs.mono (by omega))
    rw [hu] at ht
    exact next ht (sound_endStep hsu)

end Sys2Proof.Claims
end

section
/-! PROOF. The turns of a step: what each boundary leads to, resets, the decoded instruction, error mode and interrupts; trap entry
and the register windows. -/
namespace Sys2Proof.Claims
open Sys2Proof.Machine

/-! ## What a boundary is (60_exceptions.md R445) -/

section
variable {s : State}

theorem boundary_resetEnd (hm : s.mode = .reset) (hr : s.plat.resetPin = false) (hp : s.plat.porPin = false) :
    boundary s = .resetEnd := by simp [boundary, hm, hr, hp]

theorem boundary_error (hm : s.mode = .error) (hr : s.plat.resetPin = false) (hp : s.plat.porPin = false)
    (hi : s.cmu.irst = false) : boundary s = if hasCmu s then .watchdog else .halted := by
  simp [boundary, hm, hr, hp, hi]

theorem boundary_of_agent (hm : s.mode = .execute) (hr : s.plat.resetPin = false) (hp : s.plat.porPin = false)
    (hi : s.cmu.irst = false) {a : Agent} (ha : agentTurn s = some a) : boundary s = .agent a := by
  simp [boundary, hm, hr, hp, hi, ha]

theorem boundary_of_no_agent (hm : s.mode = .execute) (hr : s.plat.resetPin = false) (hp : s.plat.porPin = false)
    (hi : s.cmu.irst = false) (ha : agentTurn s = none) :
    boundary s = if interruptTaken s then .interrupt else .instruction := by
  simp [boundary, hm, hr, hp, hi, ha]

theorem drawBool_iff (s : State) (u : Use) : drawBool s u = true ↔ Config.freeNat s.draws u.ctorIdx % 2 = 1 :=
  decide_eq_true_iff

theorem interruptTaken_iff (h : Settled s) : interruptTaken s = true ↔
    s.psr.et = true ∧ s.plat.irl ≠ 0 ∧ (s.plat.irl = 15 ∨ s.psr.pil < s.plat.irl) ∧
      Config.freeNat s.draws Use.interruptBoundary.ctorIdx % 2 = 1 := by
  simp only [interruptTaken, usePsr_of_none h.1, drawBool_iff, Bool.and_eq_true, Bool.or_eq_true, decide_eq_true_eq]
  rw [and_assoc, and_assoc, and_left_comm]

theorem step_of_instruction (hb : boundary s = .instruction) : step s = closeStep (instructionStep s) := by
  simp only [step, hb]

end

/-! ## Reset -/

theorem fsrWord_reset {s : State} (hf : s.fsr = .reset) (hq : s.fq = []) : fsrWord s = 0x00060000#32 := by
  rw [fsrWord, hf, hq]; rfl

/-- Settles O1. -/
theorem resetState : Obligations.ResetState :=
  ⟨rfl, rfl, rfl, rfl, rfl, rfl, fsrWord_reset rfl rfl, rfl, rfl, reset_mem_wf⟩

/-- Settles O2. -/
theorem resetStep : Obligations.ResetStep := by
  intro s hm hr hp
  refine ⟨endTurn (resetIu s), ?_, rfl, rfl, rfl, rfl, fsrWord_reset rfl rfl, rfl, rfl, rfl, rfl, rfl, rfl, rfl, rfl, rfl,
    fun _ => rfl⟩
  simp only [step, boundary_resetEnd hm hr hp]

/-- Settles O3. -/
theorem invariantAtReset : Obligations.InvariantAtReset := by
  have hcp : State.reset.cpSound = true := (cpSound_iff _).2 ⟨cpCccOfCsr_zero.symm, .inl rfl⟩
  exact ⟨rfl, rfl, rfl, rfl, rfl, rfl, by decide, hcp⟩

/-! ## The decoded instruction -/

/-- Settles O7. -/
theorem wordsDecode : Obligations.WordsDecode := by unfold Obligations.WordsDecode; decide

theorem wordBytes_wordAt (s : State) (k : Nat) :
    wordBytes (wordAt s k) = [at' s k, at' s (k + 1), at' s (k + 2), at' s (k + 3)] := wordBytes_append ..

theorem instructionStep_of_instr {s : State} (q : Quiet s) (hc : s.codeHist = []) {i : Instr}
    (hd : decode (wordAt s (place s s.pc)) = .instr i) : instructionStep s = exec i s := by
  simp only [instructionStep, fetch_eq q hc, decodeBytes_wordBytes, hd]

theorem instructionStep_of_reject {s : State} (q : Quiet s) (hc : s.codeHist = []) {r : Reject}
    (hd : decode (wordAt s (place s s.pc)) = .reject r) :
    instructionStep s = execRejected (wordAt s (place s s.pc)) r s := by
  simp only [instructionStep, fetch_eq q hc, decodeBytes_wordBytes, hd]

/-- Settles O8. -/
theorem stepRunsTheDecodedInstruction : Obligations.StepRunsTheDecodedInstruction := by
  intro s i q hc hb _ hd
  have hw : decode (wordAt s (place s s.pc)) = .instr i := by rw [← decodeBytes_wordBytes, wordBytes_wordAt]; exact hd
  rw [step_of_instruction hb, instructionStep_of_instr q hc hw]
  cases exec i s <;> rfl

theorem execRejected_illegal {r : Reject} (hr : r ≠ .unassignedFpop) (w : Word) (s : State) :
    execRejected w r s = .next (raise s ttIllegal) := by
  cases r with
  | unassignedFpop => exact absurd rfl hr
  | reserved | alternateImmediate | notFourBytes => rfl

/-- Settles O9. -/
theorem stepAtAWordOfNoRow : Obligations.StepAtAWordOfNoRow := by
  intro s h q hc hb
  have illegal {r : Reject} (hd : decode (wordAt s (place s s.pc)) = .reject r) (hr : r ≠ .unassignedFpop) :
      step s = .next (endStep (trapped s 2)) := by
    rw [step_of_instruction hb, instructionStep_of_reject q hc hd, execRejected_illegal hr, raise_eq h]
    rfl
  refine ⟨fun hd => hd.elim (fun hd => illegal hd (by decide)) (fun hd => illegal hd (by decide)), fun hd f hm => ?_⟩
  rw [step_of_instruction hb, instructionStep_of_reject q hc hd]
  simp only [execRejected, unassignedFpop, fpop, fpEnabled_eq_true h f, hm, closeStep]
  rfl

/-- Settles O10. -/
theorem interruptBoundary : Obligations.InterruptBoundary := by
  intro s h hm hr hp hi
  cases ha : agentTurn s with
  | some a => simp only [step, boundary_of_agent hm hr hp hi ha]
  | none =>
    simp only [step, boundary_of_no_agent hm hr hp hi ha, ← interruptTaken_iff h]
    cases interruptTaken s with
    | true => simp only [if_true, takeInterrupt, enterTrap_entered h]
    | false => rfl

/-- Settles O11. -/
theorem errorMode : Obligations.ErrorMode := by
  intro s hm hr hp hi
  have hb := boundary_error hm hr hp hi
  refine ⟨fun hc => ?_, fun hc => ⟨endTurn (watchdogReset s), ?_, rfl, rfl, rfl, rfl, rfl, ?_, rfl, rfl, rfl, fun _ => rfl⟩⟩
  · simp only [step, hb, hc]; rfl
  · simp only [step, hb, hc]; rfl
  · show (s.cmu.rr ||| 4#3).getLsbD 2 = true
    simp

/-! ## Register windows and traps -/

/-- Which registers of two windows are one register (10_state.md R22). -/
theorem regIndex_eq_iff {w x : BitVec 3} {n m : Reg} (h : regIndex w n = regIndex x m) :
    n = m ∧ (w = x ∨ n.toNat < 8) ∨ (x = w + 1 ∧ m + 16 = n ∧ 24 ≤ n.toNat) ∨ (w = x + 1 ∧ n + 16 = m ∧ 24 ≤ m.toNat) := by
  have hw := w.isLt
  have hx := x.isLt
  have hn := n.isLt
  have hm := m.isLt
  have h1 : (1 : BitVec 3).toNat = 1 := rfl
  have h16 : (16 : Reg).toNat = 16 := rfl
  simp only [BitVec.toNat_eq, BitVec.toNat_add, h1, h16]
  unfold regIndex at h
  split at h <;> split at h <;> omega

theorem regIn_setRegIn (s : State) (w x : BitVec 3) (n m : Reg) (v : Word) :
    regIn (setRegIn s w n v) x m =
      if m = 0 then 0 else if n ≠ 0 ∧ regIndex w n = regIndex x m then v else regIn s x m := by
  have hx := regIndex_lt x m
  by_cases hm : m = 0
  · rw [hm, regIn_zero, if_pos rfl]
  by_cases hn : n = 0
  · rw [hn, setRegIn_zero, if_neg hm, if_neg (fun h => h.1 rfl)]
  · simp only [regIn, setRegIn_eq, if_neg hm, if_neg hn, Vector.getElem_setIfInBounds]
    simp only [ne_eq, hn, not_false_eq_true, true_and]

/-- Settles O12. -/
theorem registerWindows : Obligations.RegisterWindows :=
  ⟨by decide, fun w x _ => regIndex_global w x, fun _ _ _ _ => regIndex_eq_iff, regIn_setRegIn⟩

theorem trapped_eq (s : State) (t : TrapType) :
    trapped s t = { entered s t with mode := if s.psr.et then s.mode else .error } := by
  unfold trapped; cases s.psr.et <;> rfl

/-- The registers after a trap: those of the old state but for r[17] and r[18] of the new window. -/
theorem regIn_trapped (s : State) (t : TrapType) (w : BitVec 3) (n : Reg) :
    regIn (trapped s t) w n = if n = 0 then 0 else if regIndex (s.psr.cwp - 1) 18 = regIndex w n then s.npc
      else if regIndex (s.psr.cwp - 1) 17 = regIndex w n then s.pc else regIn s w n := by
  have hr : (trapped s t).regs = (setRegIn (setRegIn s (s.psr.cwp - 1) 17 s.pc) (s.psr.cwp - 1) 18 s.npc).regs := by
    rw [trapped_eq]; simp only [setRegIn_eq]; rfl
  rw [regIn_congr hr, regIn_setRegIn, regIn_setRegIn]
  have h17 : (17 : Reg) ≠ 0 := by decide
  have h18 : (18 : Reg) ≠ 0 := by decide
  simp only [h17, h18, ne_eq, not_false_eq_true, true_and]
  by_cases hn : n = 0 <;> simp only [hn, if_true, if_false]

/-- Settles O13. -/
theorem trapEntry : Obligations.TrapEntry := by
  intro s t h
  have hdiff : regIndex (s.psr.cwp - 1) 18 ≠ regIndex (s.psr.cwp - 1) 17 := fun e => by
    generalize s.psr.cwp = w at e; revert e; revert w; decide
  have hr := regIn_trapped s t
  refine ⟨raise_eq h t, ?_⟩
  rw [raise_eq h]
  refine ⟨?_, ?_, ?_, ?_, ?_, ?_, ?_, ?_, ?_, ?_, fun w n h17 h18 => ?_, ?_⟩
  case refine_5 => rw [hr, if_neg (by decide), if_neg hdiff, if_pos rfl]
  case refine_6 => rw [hr, if_neg (by decide), if_pos rfl]
  case refine_11 =>
    rw [hr, if_neg h18.symm, if_neg h17.symm]
    by_cases hn : n = 0
    · rw [if_pos hn, hn, regIn_zero]
    · rw [if_neg hn]
  all_goals rw [trapped_eq]
  case refine_12 => exact fun _ => rfl
  all_goals rfl

/-- Settles O49. -/
theorem accessLevels : Obligations.AccessLevels := by unfold Obligations.AccessLevels; decide

end Sys2Proof.Claims
end

section
/-! PROOF. Arithmetic, shifts and MULScc; the branches and Ticc by their conditions, the other control transfers, and the couple
after a conditional branch (42_control_transfer.md). -/
namespace Sys2Proof.Claims
open Sys2Proof.Machine

section
variable {s : State}

/-! ## Results without condition codes -/

theorem arith_eq (h : Settled s) (op : Word → Word → Word) (rd rs1 : Reg) (o : RegOrImm) :
    arith op rd rs1 o s = .next (result s rd (op (reg s rs1) (arg s o))) := by
  rw [arith, readReg_eq h, operand2_eq h, finish_eq h]

theorem shift_eq (h : Settled s) (op : Word → Nat → Word) (rd rs1 : Reg) (n : ShiftCount) :
    shift op rd rs1 n s = .next (result s rd (op (reg s rs1) (shiftBy s n))) := by
  rw [shift, readReg_eq h, shiftCount_eq h, finish_eq h]

theorem shiftBy_lt (s : State) (n : ShiftCount) : shiftBy s n < 32 := by
  cases n with
  | reg r => exact Nat.mod_lt _ (by decide)
  | imm v => exact v.isLt

theorem shiftLeft_eq_ofNat (a : Word) (k : Nat) : a <<< k = BitVec.ofNat 32 (a.toNat * 2 ^ k) := by
  apply BitVec.eq_of_toNat_eq
  rw [BitVec.toNat_shiftLeft, BitVec.toNat_ofNat, Nat.shiftLeft_eq]

theorem shiftRight_eq_ofNat (a : Word) (k : Nat) : a >>> k = BitVec.ofNat 32 (a.toNat / 2 ^ k) := by
  rw [← Nat.shiftRight_eq_div_pow, ← BitVec.toNat_ushiftRight, BitVec.ofNat_toNat, BitVec.setWidth_eq]

theorem sshiftRight_eq_ofInt (a : Word) (k : Nat) : a.sshiftRight k = BitVec.ofInt 32 (a.toInt / 2 ^ k) := by
  have hk : ((2 ^ k : Nat) : ℤ) = 2 ^ k := by norm_cast
  rw [← hk, ← Int.shiftRight_eq_div_pow, ← BitVec.toInt_sshiftRight, BitVec.ofInt_toInt]

theorem sethi_eq_ofNat (v : BitVec 22) : v ++ 0#10 = BitVec.ofNat 32 (v.toNat * 1024) := by
  have hv := v.isLt
  apply BitVec.eq_of_toNat_eq
  simp only [BitVec.toNat_append, BitVec.toNat_ofNat, Nat.shiftLeft_eq, Nat.zero_mod, Nat.or_zero]
  omega

/-- Settles O14. -/
theorem resultsWithoutConditionCodes : Obligations.ResultsWithoutConditionCodes := by
  intro s rd rs1 o n imm22 h
  refine ⟨shiftBy_lt s n, fun p hp => ?_⟩
  simp only [List.mem_cons, List.not_mem_nil, or_false] at hp
  obtain rfl | rfl | rfl | rfl | rfl | rfl | rfl | rfl | rfl | rfl | rfl | rfl | rfl | rfl := hp
  · exact arith_eq h (fun a b => a + b) rd rs1 o
  · rw [← carryWord_eq h]; exact arith_eq h (fun a b => a + b + carryWord s) rd rs1 o
  · exact arith_eq h (fun a b => a - b) rd rs1 o
  · rw [← carryWord_eq h]; exact arith_eq h (fun a b => a - b - carryWord s) rd rs1 o
  · exact arith_eq h (fun a b => a &&& b) rd rs1 o
  · exact arith_eq h (fun a b => a &&& ~~~b) rd rs1 o
  · exact arith_eq h (fun a b => a ||| b) rd rs1 o
  · exact arith_eq h (fun a b => a ||| ~~~b) rd rs1 o
  · exact arith_eq h (fun a b => a ^^^ b) rd rs1 o
  · rw [← BitVec.not_xor_right]; exact arith_eq h (fun a b => ~~~(a ^^^ b)) rd rs1 o
  · rw [← sethi_eq_ofNat, ← finish_eq h]; rfl
  · rw [← shiftLeft_eq_ofNat]; exact shift_eq h ..
  · rw [← shiftRight_eq_ofNat]; exact shift_eq h ..
  · rw [← sshiftRight_eq_ofInt]; exact shift_eq h ..

/-! ## MULScc (R186) -/

theorem mulOp1_eq (i : Icc) (a : Word) : mulOp1 i a = BitVec.ofNat 32 (a.toNat / 2 + if i.n = i.v then 0 else 2 ^ 31) := by
  have ha := a.isLt
  have hx : (i.n ^^ i.v).toNat = if i.n = i.v then 0 else 1 := by cases i.n <;> cases i.v <;> rfl
  apply BitVec.eq_of_toNat_eq
  simp only [mulOp1, BitVec.toNat_append, BitVec.toNat_ofBool, BitVec.extractLsb'_toNat, BitVec.toNat_ofNat, hx,
    Nat.shiftRight_eq_div_pow]
  rw [← Nat.shiftLeft_add_eq_or_of_lt (by omega), Nat.shiftLeft_eq]
  split <;> omega

theorem mulY_eq (a y : Word) : mulY a y = BitVec.ofNat 32 (y.toNat / 2 + a.toNat % 2 * 2 ^ 31) := by
  have hy := y.isLt
  apply BitVec.eq_of_toNat_eq
  simp only [mulY, BitVec.toNat_append, BitVec.extractLsb'_toNat, BitVec.toNat_ofNat, Nat.shiftRight_eq_div_pow]
  rw [← Nat.shiftLeft_add_eq_or_of_lt (by omega), Nat.shiftLeft_eq]
  omega

/-- Settles O18. -/
theorem multiplyStep : Obligations.MultiplyStep := by
  intro s rd rs1 o h a op1 op2
  have h1 : mulOp1 s.psr.icc a = op1 := mulOp1_eq _ _
  rw [← mulY_eq]
  change execMulscc rd rs1 o s = _
  simp only [execMulscc, readReg_eq h, operand2_eq h, useIcc_eq h, useY_of_none h.2.2.2, setIcc_finish_eq h, iccAdd_eq]
  rw [show reg s rs1 = a from rfl, h1]

/-! ## The conditions -/

/-- The condition of `i` in a list of instructions with the conditions `cs` in the same order: each instruction has the property
that relates it to its condition. -/
theorem mem_zip_map {α β γ : Type} {R : α → β → Prop} {l : List α} {cs : List β} (h : List.Forall₂ R l cs) {f : β → γ} {p : α × γ}
    (hp : p ∈ l.zip (cs.map f)) : ∃ c ∈ cs, R p.1 c ∧ p.2 = f c := by
  induction h with
  | nil => cases hp
  | cons hr _ ih =>
    rcases List.mem_cons.1 hp with rfl | hp
    · exact ⟨_, List.mem_cons_self, hr, rfl⟩
    · obtain ⟨c, hc, h⟩ := ih hp; exact ⟨c, List.mem_cons_of_mem _ hc, h⟩

theorem mem_of_forall₂ {α β : Type} {R : α → β → Prop} {l : List α} {cs : List β} (h : List.Forall₂ R l cs) {i : α} (hi : i ∈ l) :
    ∃ c ∈ cs, R i c := by
  induction h with
  | nil => cases hi
  | cons hr _ ih =>
    rcases List.mem_cons.1 hi with rfl | hi
    · exact ⟨_, List.mem_cons_self, hr⟩
    · obtain ⟨c, hc, h⟩ := ih hi; exact ⟨c, List.mem_cons_of_mem _ hc, h⟩

/-- The conditions on icc in cond order. -/
def iccConds : List IccCond := [.n, .e, .le, .l, .leu, .cs, .neg, .vs, .a, .ne, .g, .ge, .gu, .cc, .pos, .vc]

/-- The conditions on FCC and CCC in cond order. -/
def pairConds : List PairCond :=
  [pairCond [], pairCond [1, 2, 3], pairCond [1, 2], pairCond [1, 3], pairCond [1], pairCond [2, 3], pairCond [2], pairCond [3],
   pairAlways, pairCond [0], pairCond [0, 3], pairCond [0, 2], pairCond [0, 2, 3], pairCond [0, 1], pairCond [0, 1, 3],
   pairCond [0, 1, 2]]

theorem iccTests_eq (p : Psr) : iccTests p = iccConds.map fun c => c.test p.icc := by
  have hx (a b : Bool) : (a != b) = (a ^^ b) := rfl
  simp only [iccTests, hx]; rfl

theorem pairTests_eq (cc : BitVec 2) : pairTests cc = pairConds.map fun c => c.test cc := by revert cc; decide

theorem bicc_conds (a : Bool) (d : Int) : List.Forall₂ (fun i c => (∀ s, exec i s = branchIcc c a d s) ∧
    decide (i = .ba a d) = decide (c = .a)) (bicc a d) iccConds := by
  unfold bicc iccConds
  repeat refine .cons ⟨fun _ => rfl, by simp⟩ ?_
  exact .nil

theorem fbfcc_conds (a : Bool) (d : Int) : List.Forall₂ (fun i c => (∀ s, exec i s = branchFcc c a d s) ∧
    decide (i = .fba a d) = c.always) (fbfcc a d) pairConds := by
  unfold fbfcc pairConds
  repeat refine .cons ⟨fun _ => rfl, by simp [pairCond, pairAlways]⟩ ?_
  exact .nil

theorem cbccc_conds (a : Bool) (d : Int) : List.Forall₂ (fun i c => (∀ s, exec i s = branchCcc c a d s) ∧
    decide (i = .cba a d) = c.always) (cbccc a d) pairConds := by
  unfold cbccc pairConds
  repeat refine .cons ⟨fun _ => rfl, by simp [pairCond, pairAlways]⟩ ?_
  exact .nil

theorem ticc_conds (rs1 : Reg) (o : RegOrImm) :
    List.Forall₂ (fun i c => ∀ s, exec i s = trapIcc c rs1 o s) (ticc rs1 o) iccConds := by
  unfold ticc iccConds
  repeat refine .cons (fun _ => rfl) ?_
  exact .nil

/-! ## Branches (R222 to R225) -/

theorem branchIcc_eq (h : Settled s) (hc : s.condDelay = false) (c : IccCond) (a : Bool) (d : Int) :
    branchIcc c a d s = .next (branched s (decide (c = .a)) (c.test s.psr.icc) a d) := by
  rw [branchIcc, useIcc_eq h, branch_eq hc]

/-- FBfcc with the FPU ready is the branch. -/
theorem branchFcc_ready (h : Settled s) (f : FpOn s) (hm : s.fpMode ≠ .pending) (c : PairCond) (a : Bool) (d : Int) :
    branchFcc c a d s = .next (branch c.always (c.test s.fsr.fcc) a d s) := by
  rw [branchFcc, fpEnabled_eq_true h f, if_neg hm]; rfl

/-- Without a compare at work a CBccc waits for nothing. -/
theorem cpCompared_of_not_comparing (h : ¬ Comparing s.cp) : cpCompared s = s := by
  by_cases hm : s.cp.mode = .execution
  · exact cpCompared_of_none fun e he => Bool.eq_false_of_not_eq_true fun hc => h ⟨hm, e, he, hc⟩
  · exact cpCompared_of_idle (by simp [cpBusy, hm])

theorem not_comparing_cpCompared (s : State) : ¬ Comparing (cpCompared s).cp := fun h => by
  rw [Comparing, ← cpComparing_iff, cpComparing_cpCompared] at h; cases h

theorem not_comparing_cpHeld (s : State) : ¬ Comparing (cpHeld s).cp := fun h => by
  rw [Comparing, ← cpComparing_iff, cpComparing_cpHeld] at h; cases h

/-- CBccc after its wait takes the pending exception. -/
theorem branchCcc_pending (h : Settled s) (c : CpOn s) (hm : (cpCompared s).cp.mode = .pending) (p : PairCond) (a : Bool) (d : Int) :
    branchCcc p a d s = .next { trapped s 40 with cp := { (cpCompared s).cp with mode := .exception } } := by
  rw [branchCcc, cpEnabled_eq_true h c]
  simp only [hm, if_true, ← raiseCpException_eq h]; rfl

/-- CBccc after its wait with no exception pending is the branch. -/
theorem branchCcc_ready (h : Settled s) (c : CpOn s) (hm : (cpCompared s).cp.mode ≠ .pending) (p : PairCond) (a : Bool) (d : Int) :
    branchCcc p a d s = .next (branch p.always (p.test (cpCompared s).cp.ccc) a d (cpCompared s)) := by
  rw [branchCcc, cpEnabled_eq_true h c]
  simp only [if_neg hm]; rfl

/-- Settles O19. -/
theorem branches : Obligations.Branches := by
  intro s a d h hc
  refine ⟨fun p hp => ?_, fun f hm p hp => ?_, fun c => ⟨fun hm hn p hp => ?_, (cpCompared s).cp, cpReached_cpCompared s,
    not_comparing_cpCompared s, fun hm i hi => ?_, fun hm p hp => ?_⟩⟩
  · rw [iccTests_eq] at hp
    obtain ⟨k, -, ⟨he, ha⟩, ht⟩ := mem_zip_map (bicc_conds a d) hp
    rw [he, branchIcc_eq h hc, ha, ht]
  · rw [pairTests_eq] at hp
    obtain ⟨k, -, ⟨he, ha⟩, ht⟩ := mem_zip_map (fbfcc_conds a d) hp
    rw [he, branchFcc_ready h f hm, branch_eq hc, ha, ht]
  · rw [pairTests_eq] at hp
    obtain ⟨k, -, ⟨he, ha⟩, ht⟩ := mem_zip_map (cbccc_conds a d) hp
    have hs := cpCompared_of_not_comparing hn
    rw [he, branchCcc_ready h c (by rwa [hs]), hs, branch_eq hc, ha, ht]
  · obtain ⟨k, -, he, -⟩ := mem_of_forall₂ (cbccc_conds a d) hi
    rw [he, branchCcc_pending h c hm]
  · rw [pairTests_eq] at hp
    obtain ⟨k, -, ⟨he, ha⟩, ht⟩ := mem_zip_map (cbccc_conds a d) hp
    rw [he, branchCcc_ready h c hm, branch_eq (s := cpCompared s) hc, ha, ht]; rfl

/-! ## CALL, JMPL and RETT -/

theorem misaligned_word_eq (a : Word) : misaligned a .word = decide (a.toNat % 4 ≠ 0) := by
  rw [Bool.eq_iff_iff, misaligned_word, decide_eq_true_eq]

theorem transfer_eq (hc : s.condDelay = false) (p n : Word) : transfer s p n = { s with pc := p, npc := n } := by
  simp only [transfer, hc, Bool.false_eq_true, if_false]

/-- The link register written, then the transfer. -/
theorem linked_transfer (h : Settled s) (hc : s.condDelay = false) (rd : Reg) (target : Word) :
    transfer (writeReg s .link rd s.pc) s.npc target = linked s rd target := by
  rw [writeReg_eq h, transfer_eq (by exact hc)]; rfl

theorem wordDisp_eq (d : BitVec 30) : 4 * d.setWidth 32 = (d ++ 0#2 : Word) := by
  have hd := d.isLt
  have h4 : (4 : Word).toNat = 4 := rfl
  apply BitVec.eq_of_toNat_eq
  rw [BitVec.toNat_mul, BitVec.toNat_append, BitVec.toNat_setWidth, Nat.shiftLeft_eq, h4]
  simp only [BitVec.toNat_ofNat, Nat.zero_mod, Nat.or_zero]
  omega

/-- Settles O20. -/
theorem callAndJump : Obligations.CallAndJump := by
  intro s rd rs1 o d h hc
  constructor
  · rw [← wordDisp_eq, ← linked_transfer h hc]; rfl
  · change execJmpl rd rs1 o s = _
    simp only [execJmpl, addressOf_eq h, misaligned_word_eq, decide_eq_true_eq, linked_transfer h hc, raise_eq h]
    rw [ite_not]; rfl

theorem window_above (w : BitVec 3) : (w + 1).toNat = (w.toNat + 1) % 8 := BitVec.toNat_add ..

theorem window_below (w : BitVec 3) : (w - 1).toNat = (w.toNat + 7) % 8 := by revert w; decide

theorem enterErrorMode_eq (h : Settled s) (t : TrapType) : enterErrorMode s t = { entered s t with mode := .error } := by
  rw [enterErrorMode, enterTrap_entered h]

/-- RETT in its order of checks, whatever the delay slot. -/
theorem execRett_eq (h : Settled s) (rs1 : Reg) (o : RegOrImm) :
    execRett rs1 o s =
      if s.psr.et then .next (entered s 2)
      else if !s.psr.s then .next { entered s 3 with mode := .error }
      else if s.wim.getLsbD ((s.psr.cwp.toNat + 1) % 8) then .next { entered s 6 with mode := .error }
      else if (ea s rs1 o).toNat % 4 ≠ 0 then .next { entered s 7 with mode := .error }
      else .next (returnFromTrap s (s.psr.cwp + 1) (ea s rs1 o)) := by
  simp only [execRett, useWim_of_none h.2.1, window_above, usePsr_of_none h.1, supervisor_eq h, addressOf_eq h, misaligned_word_eq,
    decide_eq_true_eq, enterErrorMode_eq h, useCwp_of_none h.1]
  split
  · rename_i he; rw [raise_eq h, trapped, if_pos he]; rfl
  · rfl

/-- Settles O21. -/
theorem returnFromTrap : Obligations.ReturnFromTrap := by
  intro s rs1 o h hc
  have hr : Machine.returnFromTrap s (s.psr.cwp + 1) (ea s rs1 o) = { s with
      psr := { s.psr with et := true, s := s.psr.ps, cwp := s.psr.cwp + 1 }, pc := s.npc, npc := ea s rs1 o } := by
    rw [Machine.returnFromTrap, usePsr_of_none h.1, transfer_eq (by exact hc), if_neg (by simp [hc])]
  rw [← hr]; exact execRett_eq h rs1 o

/-! ## SAVE and RESTORE -/

theorem moveWindow_eq (h : Settled s) (w : BitVec 3) (rd rs1 : Reg) (o : RegOrImm) :
    moveWindow w rd rs1 o s =
      { done s with psr := { s.psr with cwp := w }, regs := withReg s.regs w rd (ea s rs1 o) } := by
  simp only [moveWindow, addressOf_eq h, setRegIn_eq]; rfl

/-- Settles O22. -/
theorem saveAndRestore : Obligations.SaveAndRestore := by
  intro s rd rs1 o h moved
  constructor
  · change execSave rd rs1 o s = _
    simp only [execSave, useWim_of_none h.2.1, window_below, raise_eq h, moveWindow_eq h, useCwp_of_none h.1]; rfl
  · change execRestore rd rs1 o s = _
    simp only [execRestore, useWim_of_none h.2.1, window_above, raise_eq h, moveWindow_eq h, useCwp_of_none h.1]; rfl

/-! ## Ticc (R229) -/

theorem softwareTrap_eq (a : Word) : softwareTrap a = BitVec.ofNat 8 (128 + a.toNat % 128) := by
  apply BitVec.eq_of_toNat_eq
  have h1 : (1#1).toNat = 1 := rfl
  rw [softwareTrap, BitVec.toNat_append, BitVec.extractLsb'_toNat, h1, BitVec.toNat_ofNat, Nat.shiftRight_zero,
    ← Nat.shiftLeft_add_eq_or_of_lt (Nat.mod_lt _ (by decide)), Nat.shiftLeft_eq]
  omega

/-- Settles O23. -/
theorem trapsOnConditionCodes : Obligations.TrapsOnConditionCodes := by
  intro s rs1 o h p hp
  rw [iccTests_eq] at hp
  obtain ⟨k, -, he, ht⟩ := mem_zip_map (ticc_conds rs1 o) hp
  rw [he, trapIcc, useIcc_eq h, addressOf_eq h, softwareTrap_eq, raise_eq h, ht]
  cases k.test s.psr.icc <;> rfl

/-! ## The couple after a conditional branch (R242) -/

theorem elsewhere_transfer (hc : s.condDelay = true) (p n : Word) : Elsewhere s (transfer s p n) :=
  ⟨_, _, mod4_drawAddress s .couplePc, mod4_drawAddress s .coupleNpc, if_pos hc⟩

theorem elsewhere_branch (hc : s.condDelay = true) (always taken annul : Bool) (d : Int) :
    Elsewhere s (branch always taken annul d s) := by
  have hmark (p n : Word) : Elsewhere s { transfer s p n with condDelay := !always && !s.condDelay } := by
    have hb : (!always && !s.condDelay) = false := by simp [hc]
    obtain ⟨x, y, hx, hy, e⟩ := elsewhere_transfer hc p n
    exact ⟨x, y, hx, hy, by rw [hb, e]⟩
  unfold branch; dsimp only
  split <;> split
  · exact elsewhere_transfer hc ..
  · exact hmark ..
  · exact elsewhere_transfer hc ..
  · exact hmark ..

/-- Settles O24. -/
theorem coupleAfterConditionalBranch : Obligations.CoupleAfterConditionalBranch := by
  intro s rd rs1 o a d d30 h hc
  refine ⟨fun i hi => ?_, fun f hm i hi => ?_, fun c => ⟨fun hm hn i hi => ?_, (cpCompared s).cp, cpReached_cpCompared s,
    not_comparing_cpCompared s, fun hm i hi => ?_, fun hm i hi => ?_⟩, ?_, fun ha => ?_, fun he hs hw ha => ?_⟩
  · obtain ⟨k, -, e, -⟩ := mem_of_forall₂ (bicc_conds a d) hi
    exact ⟨_, e s, elsewhere_branch hc ..⟩
  · obtain ⟨k, -, e, -⟩ := mem_of_forall₂ (fbfcc_conds a d) hi
    exact ⟨_, (e s).trans (branchFcc_ready h f hm ..), elsewhere_branch hc ..⟩
  · obtain ⟨k, -, e, -⟩ := mem_of_forall₂ (cbccc_conds a d) hi
    have hs := cpCompared_of_not_comparing hn
    refine ⟨_, (e s).trans (branchCcc_ready h c (by rwa [hs]) ..), ?_⟩
    rw [hs]; exact elsewhere_branch hc ..
  · obtain ⟨k, -, e, -⟩ := mem_of_forall₂ (cbccc_conds a d) hi
    rw [e, branchCcc_pending h c hm]
  · obtain ⟨k, -, e, -⟩ := mem_of_forall₂ (cbccc_conds a d) hi
    exact ⟨_, (e s).trans (branchCcc_ready h c hm ..), elsewhere_branch (s := cpCompared s) hc ..⟩
  · refine ⟨_, rfl, ?_⟩
    rw [writeReg_eq h]
    exact elsewhere_transfer (by exact hc) ..
  · refine ⟨transfer (writeReg s .link rd s.pc) s.npc (ea s rs1 o), ?_, ?_⟩
    · change execJmpl rd rs1 o s = _
      simp only [execJmpl, addressOf_eq h, misaligned_word_eq, decide_eq_true_eq, if_neg (not_not.2 ha)]
    · rw [writeReg_eq h]; exact elsewhere_transfer (by exact hc) ..
  · refine ⟨Machine.returnFromTrap s (s.psr.cwp + 1) (ea s rs1 o), ?_, ?_⟩
    · change execRett rs1 o s = _
      rw [execRett_eq h, he, hs, hw]; simp [ha]
    · rw [Machine.returnFromTrap, if_pos hc]
      exact elsewhere_transfer (by exact hc) ..

end

end Sys2Proof.Claims
end

section
/-! PROOF. The state registers: reads, delayed writes and their window (43_state_register_misc.md, 70_reset_and_hazards.md R511),
IFLUSH and UNIMP. -/
namespace Sys2Proof.Claims
open Sys2Proof.Machine

section
variable {s : State}

theorem privileged_of_supervisor (h : Settled s) (hs : s.psr.s = true) (k : Result) : privileged s k = k := by
  rw [privileged, supervisor_eq h, if_pos hs]

theorem privileged_of_user (h : Settled s) (hs : s.psr.s = false) (k : Result) : privileged s k = .next (trapped s 3) := by
  rw [privileged, supervisor_eq h, if_neg (by simp [hs]), raise_eq h]; rfl

/-! ## Reads -/

/-- The fields of the word RDPSR reads (10_state.md R33). -/
theorem psrWord_fields (s : State) (p : Psr) : let w := psrWord s p
    w.extractLsb' 28 4 = 1#4 ∧ w.extractLsb' 24 4 = psrVer s ∧ w.getLsbD 23 = p.n ∧
      w.getLsbD 22 = p.z ∧ w.getLsbD 21 = p.v ∧ w.getLsbD 20 = p.c ∧ w.extractLsb' 14 6 = 0#6 ∧
      w.getLsbD 13 = p.ec ∧ w.getLsbD 12 = p.ef ∧ w.extractLsb' 8 4 = p.pil ∧ w.getLsbD 7 = p.s ∧
      w.getLsbD 6 = p.ps ∧ w.getLsbD 5 = p.et ∧ w.extractLsb' 3 2 = 0#2 ∧ w.extractLsb' 0 3 = p.cwp := by
  intro w
  refine ⟨?_, ?_, ?_, ?_, ?_, ?_, ?_, ?_, ?_, ?_, ?_, ?_, ?_, ?_, ?_⟩
  case refine_1 | refine_2 | refine_7 | refine_10 | refine_14 | refine_15 =>
    apply BitVec.eq_of_getLsbD_eq
    intro i hi
    simp only [w, psrWord, BitVec.getLsbD_extractLsb', BitVec.getLsbD_append]
    interval_cases i <;> simp
  all_goals
    simp only [w, psrWord, BitVec.getLsbD_append]
    simp

theorem psrVer_eq (s : State) : psrVer s = if s.plat.iu = .cy7c601 then 1#4 else 3#4 := by
  unfold psrVer; cases s.plat.iu <;> rfl

/-- Settles O25. -/
theorem stateRegisterReads : Obligations.StateRegisterReads := by
  intro s rd h
  refine ⟨?_, fun hs => ⟨⟨psrWord s s.psr, ?_, ?_⟩, ?_, ?_⟩⟩
  · rw [← finish_eq h, ← useY_of_none h.2.2.2 .readY]; rfl
  · change execRdpsr rd s = _
    rw [execRdpsr, privileged_of_supervisor h hs, readPsr_of_none h.1, finish_eq h]
  · rw [← psrVer_eq]; exact psrWord_fields s s.psr
  · change execRdwim rd s = _
    rw [execRdwim, privileged_of_supervisor h hs, useWim_of_none h.2.1, finish_eq h, BitVec.ofNat_toNat]
  · change execRdtbr rd s = _
    rw [execRdtbr, privileged_of_supervisor h hs, useTba_of_none h.2.2.1, finish_eq h]; rfl

/-! ## Writes -/

theorem writeValue_eq (h : Settled s) (rs1 : Reg) (o : RegOrImm) : writeValue s rs1 o = reg s rs1 ^^^ arg s o := by
  rw [writeValue, readReg_eq h, operand2_eq h]

theorem write_of_none {α : Type} {w : Delayed α} (h : w.writes = []) (x y : α) :
    w.write x y = { writes := [(x, y)], left := 4 } := by rw [Delayed.write, h]; rfl

/-- The CWP field of a word names a window of the eight exactly when its upper two bits are 0 (R265). -/
theorem legalCwp_iff (v : Word) : v.extractLsb' 3 2 = 0 ↔ v.toNat % 32 < 8 := by
  rw [BitVec.toNat_eq, BitVec.extractLsb'_toNat, Nat.shiftRight_eq_div_pow, show (0 : BitVec 2).toNat = 0 from rfl]
  omega

theorem execWrpsr_illegal (h : Settled s) (rs1 : Reg) (o : RegOrImm) (hv : 8 ≤ (reg s rs1 ^^^ arg s o).toNat % 32) :
    execWrpsr rs1 o s = .next (trapped s 2) := by
  have hc : (reg s rs1 ^^^ arg s o).extractLsb' 3 2 ≠ 0 := fun e => by have := (legalCwp_iff _).1 e; omega
  simp only [execWrpsr, writeValue_eq h, if_pos hc, raise_eq h]; rfl

theorem execWrpsr_legal (h : Settled s) (rs1 : Reg) (o : RegOrImm) (hv : (reg s rs1 ^^^ arg s o).toNat % 32 < 8) :
    execWrpsr rs1 o s =
      privileged s (.next (advance { s with
        psr := psrOfWord s (reg s rs1 ^^^ arg s o)
        psrWin := s.psrWin.write s.psr (psrOfWord s (reg s rs1 ^^^ arg s o)) })) := by
  have hc : ¬ (reg s rs1 ^^^ arg s o).extractLsb' 3 2 ≠ 0 := not_not.2 ((legalCwp_iff _).2 hv)
  simp only [execWrpsr, writeValue_eq h, if_neg hc]

/-- Settles O26. -/
theorem stateRegisterWrites : Obligations.StateRegisterWrites := by
  intro s rs1 o h v
  refine ⟨?_, fun hv => execWrpsr_illegal h rs1 o hv, fun hs => ⟨fun hv => ⟨psrOfWord s v, ?_, rfl, rfl, rfl, rfl, rfl, rfl, rfl,
    rfl, rfl, rfl, rfl⟩, ?_, ?_⟩⟩
  · change execWry rs1 o s = _
    simp only [execWry, writeValue_eq h, write_of_none h.2.2.2]; rfl
  · refine (execWrpsr_legal h rs1 o hv).trans ?_
    rw [privileged_of_supervisor h hs, write_of_none h.1]; rfl
  · change execWrwim rs1 o s = _
    simp only [execWrwim, writeValue_eq h, privileged_of_supervisor h hs, write_of_none h.2.1]; rfl
  · change execWrtbr rs1 o s = _
    simp only [execWrtbr, writeValue_eq h, privileged_of_supervisor h hs, write_of_none h.2.2.1]; rfl

/-! ## IFLUSH and UNIMP -/

/-- Settles O28. -/
theorem flushAndUnimplemented : Obligations.FlushAndUnimplemented := by
  intro s rs1 o c h
  constructor
  · change execIflush rs1 o s = _
    rw [execIflush, raise_eq h, iftHigh]
    cases s.plat.iftPin <;> rfl
  · rw [← raise_eq h]; rfl

/-! ## The window of a delayed write (R511) -/

/-- A record with instructions left loses one at the end of an instruction, and its last end leaves no record. -/
theorem tick_of_left {α : Type} {w : Delayed α} {n : Nat} (h : w.left = n + 2) :
    w.tick = { w with left := n + 1 } := by
  rw [Delayed.tick, if_neg (by omega), h]; rfl

theorem tick_last {α : Type} {w : Delayed α} (h : w.left = 1) : w.tick = .none := by
  rw [Delayed.tick, if_pos (by omega)]

theorem finish_of_none (h : s.psrWin.writes = []) (rd : Reg) (v : Word) : finish s rd v = result s rd v := by
  simp only [finish, writeReg_of_none h, setRegIn_eq]; rfl

theorem addressOf_of_none (h : s.psrWin.writes = []) (rs1 : Reg) (o : RegOrImm) : addressOf s rs1 o = ea s rs1 o := by
  rw [addressOf, readReg_of_none h, operand2_of_none h]; cases o <;> rfl

theorem moveWindow_of_none (h : s.psrWin.writes = []) (w : BitVec 3) (rd rs1 : Reg) (o : RegOrImm) :
    moveWindow w rd rs1 o s =
      { done s with psr := { s.psr with cwp := w }, regs := withReg s.regs w rd (ea s rs1 o) } := by
  simp only [moveWindow, addressOf_of_none h, setRegIn_eq]; rfl

/-- A trap goes to the vector of the TBA it uses; all else is as with no delayed write pending. -/
theorem raise_of_et (h : usePsr s Psr.et .trapEnable = s.psr.et) (t : TrapType) : raise s t = { trapped s t with
    pc := useTba s .vectorTba ++ t ++ 0#4, npc := useTba s .vectorTba ++ t ++ 0#4 + 4#32 } := by
  rw [raise, h, trapped, enterErrorMode, enterTrap_eq]
  cases s.psr.et <;> rfl

theorem raise_of_tba (h : s.psrWin.writes = []) (ht : s.tbaWin.writes = []) (t : TrapType) : raise s t = trapped s t := by
  rw [raise_of_et (usePsr_of_none h ..), useTba_of_none ht, trapped]
  cases s.psr.et <;> rfl

/-- Settles O27. -/
theorem delayedWriteWindow : Obligations.DelayedWriteWindow := by
  refine ⟨fun w x y => ?_, fun s rd h => ⟨?_, fun hs => ?_⟩, fun s rd rs1 o h ht => ?_, fun s a d hc => ?_, fun s t he => ?_⟩
  · intro u
    have h4 : u.left = 2 + 2 := rfl
    have t1 := tick_of_left h4
    have t2 : u.tick.tick = { u with left := 2 } := by rw [t1]; exact tick_of_left (n := 1) rfl
    have t3 : u.tick.tick.tick = { u with left := 1 } := by rw [t2]; exact tick_of_left (n := 0) rfl
    refine ⟨?_, ?_, by rw [t1], by rw [t2], by rw [t3], by rw [t3], by rw [t3]; exact tick_last rfl⟩
    · simp [u, Delayed.write]
    · intro p hp; simp [u, Delayed.write, hp]
  · obtain ⟨v, hv, e⟩ := use_mem s.yWin s.y id (drawNat s .readY)
    refine ⟨v, hv, ?_⟩
    change execRdy rd s = _
    rw [execRdy, useY, e, finish_of_none h]; rfl
  · obtain ⟨v, hv, e⟩ := use_mem s.tbaWin s.tbr.tba id (drawNat s .readTba)
    refine ⟨v, hv, ?_⟩
    change execRdtbr rd s = _
    rw [execRdtbr, privileged, supervisor_of_none h, if_pos hs, useTba, e, finish_of_none h]; rfl
  · obtain ⟨w, hw, e⟩ := use_mem s.wimWin s.wim id (drawNat s .wim)
    refine ⟨w, hw, ?_⟩
    change execSave rd rs1 o s = _
    simp only [execSave, useWim, e, useCwp_of_none h, window_below, raise_of_tba h ht, moveWindow_of_none h]; rfl
  · obtain ⟨q, hq, e⟩ := use_mem s.psrWin s.psr Psr.icc (drawNat s .icc)
    refine ⟨q, hq, fun hu => e.symm.trans (use_of_unchanged hu _ _), fun p hp => ?_⟩
    rw [iccTests_eq] at hp
    obtain ⟨k, -, ⟨hk, ha⟩, htest⟩ := mem_zip_map (bicc_conds a d) hp
    rw [hk, branchIcc, usePsr, e, branch_eq hc, ha, htest]
  · obtain ⟨b, hb, e⟩ := use_mem s.tbaWin s.tbr.tba id (drawNat s .vectorTba)
    exact ⟨b, hb, by rw [raise_of_et (use_of_unchanged he _ _), useTba, e]; rfl⟩

end

end Sys2Proof.Claims
end

section
/-! PROOF. Rules of every instruction, over the forms: user mode is left only by a trap, error mode is entered only with traps
disabled, and without a CMU only stores change memory. -/
namespace Sys2Proof.Claims
open Sys2Proof.Machine

/-! ## Privileged state and the mode (60_exceptions.md R403, R421) -/

/-- `u` has the PSR, the WIM, the TBR, the mode and the delayed writes that `s` has. -/
structure Alike (s u : State) : Prop where
  psr : u.psr = s.psr
  psrWin : u.psrWin = s.psrWin
  wim : u.wim = s.wim
  tbr : u.tbr = s.tbr
  tbaWin : u.tbaWin = s.tbaWin
  mode : u.mode = s.mode

/-- What an instruction does to the mode and, from user mode, to the privileged state. -/
structure Leaves (s t : State) : Prop where
  mode : t.mode = s.mode ∨ t.mode = .error ∧ s.psr.et = false
  user : s.psr.s = false → t.psr.ef = s.psr.ef ∧ t.psr.ec = s.psr.ec ∧ t.psr.pil = s.psr.pil ∧ t.wim = s.wim ∧
    t.tbr.tba = s.tbr.tba ∧ (t.psr.s = true → t.psr.et = false ∧ t.psr.ps = false ∧ t.psr.cwp = s.psr.cwp - 1 ∧
      t.pc = s.tbr.tba ++ t.tbr.tt ++ 0#4 ∧ t.npc = t.pc + 4)

theorem Alike.refl (s : State) : Alike s s := ⟨rfl, rfl, rfl, rfl, rfl, rfl⟩

theorem alike_accessed {s t : State} (h : Accessed s t) : Alike s t := by
  rw [h.1]; exact ⟨rfl, rfl, rfl, rfl, rfl, rfl⟩

theorem Alike.trans {s u t : State} (h : Alike s u) (g : Alike u t) : Alike s t :=
  ⟨g.psr.trans h.psr, g.psrWin.trans h.psrWin, g.wim.trans h.wim, g.tbr.trans h.tbr, g.tbaWin.trans h.tbaWin,
    g.mode.trans h.mode⟩

section
variable {s u : State}

/-- A PSR whose EF, EC and PIL are as before, and whose S is not set newly, is no change of privileged state. -/
theorem leaves_psr (hm : u.mode = s.mode) (hw : u.wim = s.wim) (ht : u.tbr = s.tbr) (hp : u.psr.ef = s.psr.ef ∧
    u.psr.ec = s.psr.ec ∧ u.psr.pil = s.psr.pil) (hs : s.psr.s = false → u.psr.s = false) : Leaves s u :=
  ⟨.inl hm, fun h => ⟨hp.1, hp.2.1, hp.2.2, hw, by rw [ht], fun hu => by rw [hs h] at hu; cases hu⟩⟩

theorem Alike.leaves (h : Alike s u) : Leaves s u :=
  leaves_psr h.mode h.wim h.tbr (by rw [h.psr]; exact ⟨rfl, rfl, rfl⟩) (by rw [h.psr]; exact id)

theorem leaves_of_supervisor (hm : u.mode = s.mode) (hs : s.psr.s = true) : Leaves s u :=
  ⟨.inl hm, fun h => by rw [hs] at h; cases h⟩

variable (h : Settled s)
include h

theorem leaves_enterTrap (a : Alike s u) (t : TrapType) {m : Mode} (hm : m = s.mode ∨ m = .error ∧ s.psr.et = false) :
    Leaves s { enterTrap u t with mode := m } := by
  have ht : useTba u .vectorTba = s.tbr.tba := by
    rw [useTba_of_none (by rw [a.tbaWin]; exact h.2.2.1), a.tbr]
  refine ⟨hm, fun hs => ?_⟩
  rw [enterTrap_eq, ht]
  simp [a.psr, a.wim, a.tbr, hs, tbrWord]

theorem leaves_raise (a : Alike s u) (t : TrapType) : Leaves s (raise u t) := by
  have hu : (enterTrap u t).mode = s.mode := a.mode
  rw [raise_of_none (by rw [a.psrWin]; exact h.1), a.psr]
  split
  · have := leaves_enterTrap h a t (.inl hu)
    exact this
  · rename_i he; exact leaves_enterTrap h a t (.inr ⟨rfl, by simpa using he⟩)

end

/-! ## Operations that leave the privileged state alone -/

section
variable (s : State)

theorem alike_advance : Alike s (advance s) := ⟨rfl, rfl, rfl, rfl, rfl, rfl⟩

theorem alike_setRegIn (w : BitVec 3) (r : Reg) (v : Word) : Alike s (setRegIn s w r v) := by
  rw [setRegIn_eq]; exact ⟨rfl, rfl, rfl, rfl, rfl, rfl⟩

theorem alike_writeReg (u : Use) (r : Reg) (v : Word) : Alike s (writeReg s u r v) := by
  unfold writeReg; split <;> exact alike_setRegIn ..

theorem alike_finish (rd : Reg) (v : Word) : Alike s (finish s rd v) := (alike_writeReg ..).trans (alike_advance _)

theorem alike_transfer (p q : Word) : Alike s (transfer s p q) := by
  unfold transfer; split <;> exact ⟨rfl, rfl, rfl, rfl, rfl, rfl⟩

theorem alike_branch (always taken annul : Bool) (d : Int) : Alike s (branch always taken annul d s) := by
  have hmark (p q : Word) (b : Bool) : Alike s { transfer s p q with condDelay := b } :=
    (alike_transfer s p q).trans ⟨rfl, rfl, rfl, rfl, rfl, rfl⟩
  unfold branch; dsimp only; split <;> split
  · exact alike_transfer ..
  · exact hmark ..
  · exact alike_transfer ..
  · exact hmark ..

theorem alike_withCp (c : CpState) : Alike s (withCp s c) := ⟨rfl, rfl, rfl, rfl, rfl, rfl⟩

theorem alike_cpHeld : Alike s (cpHeld s) := by rw [cpHeld_eq]; exact alike_withCp ..

theorem alike_cpLoadTrapped : Alike s (cpLoadTrapped s) := by
  unfold cpLoadTrapped; split
  · exact alike_withCp ..
  · exact .refl s

theorem alike_fpExcept (w : Word) (t : BitVec 3) : Alike s (fpExcept s w t) := ⟨rfl, rfl, rfl, rfl, rfl, rfl⟩

theorem alike_fpComplete (w : Word) (e : FpOutcome) : Alike s (fpComplete s w e) := by
  cases e with
  | unimplemented | unfinished => exact ⟨rfl, rfl, rfl, rfl, rfl, rfl⟩
  | done raised v =>
    unfold fpComplete; dsimp only; split
    · exact ⟨rfl, rfl, rfl, rfl, rfl, rfl⟩
    · cases v <;> exact ⟨rfl, rfl, rfl, rfl, rfl, rfl⟩

theorem alike_advanceQueue : Alike s (advanceQueue s) := by
  unfold advanceQueue; split <;> exact ⟨rfl, rfl, rfl, rfl, rfl, rfl⟩

end

section
variable {s : State} (h : Settled s)
include h

theorem leaves_loadWith {u : State} (a : Alike s u) (asi : Asi) (ea : Word) (size : Size) {k : State → DWord → State}
    (hk : ∀ x v, Alike x (k x v)) : Answers (Leaves s) (loadWith asi ea size u k) := by
  have hr := a.trans (alike_accessed (accessed_readMem u asi ea size))
  unfold loadWith; split
  · exact answers_next (leaves_raise h a _)
  · split <;> rename_i e <;> rw [e] at hr
    · exact answers_next ((hr.trans (hk _ _)).trans (alike_advance _)).leaves
    · exact answers_next (leaves_raise h hr _)

theorem leaves_storeWith {u : State} (a : Alike s u) (asi : Asi) (ea : Word) (size : Size) (v : DWord) {k : State → State}
    (hk : ∀ x, Alike x (k x)) : Answers (Leaves s) (storeWith asi ea size v u k) := by
  have hr := a.trans (alike_accessed (accessed_writeMem u asi ea size v))
  unfold storeWith; split
  · exact answers_next (leaves_raise h a _)
  · split <;> rename_i e <;> rw [e] at hr
    · exact answers_next ((hr.trans (hk _)).trans (alike_advance _)).leaves
    · exact answers_next (leaves_raise h hr _)

theorem leaves_exchangeWith (asi : Asi) (ea : Word) (size : Size) (v : DWord) (rd : Reg) :
    Answers (Leaves s) (exchangeWith asi ea size v rd s) := by
  have hr := alike_accessed (accessed_exchangeMem s asi ea size v)
  unfold exchangeWith; split
  · exact answers_next (leaves_raise h (.refl s) _)
  · split <;> rename_i e <;> rw [e] at hr
    · exact answers_next (hr.trans (alike_finish ..)).leaves
    · exact answers_next (leaves_raise h hr _)

theorem leaves_fpException : Leaves s (raiseFpException s) :=
  leaves_raise h (u := { s with fpMode := .exception }) ⟨rfl, rfl, rfl, rfl, rfl, rfl⟩ _

theorem leaves_cpException {u : State} (a : Alike s u) : Leaves s (raiseCpException u) :=
  leaves_raise h (a.trans (alike_withCp u { u.cp with mode := .exception })) _

theorem leaves_fpop (w : Word) (e : FpOutcome) : Answers (Leaves s) (fpop w e s) := by
  unfold fpop; split
  · exact answers_next (leaves_raise h (.refl s) _)
  split
  · exact answers_next (leaves_fpException h)
  · exact answers_next (Alike.leaves ⟨rfl, rfl, rfl, rfl, rfl, rfl⟩)
  · exact answers_next ((alike_fpComplete ..).trans (alike_advance _)).leaves

theorem leaves_fpLoad (ea : Word) (size : Size) {k : State → DWord → State}
    (hk : ∀ u v, ∃ (f : Vector Word 32) (x : Fsr), k u v = { u with f := f, fsr := x }) :
    Answers (Leaves s) (fpLoad ea size s k) := by
  unfold fpLoad; split
  · exact answers_next (leaves_raise h (.refl s) _)
  split
  · exact answers_next (leaves_raise h (.refl s) _)
  split
  · exact answers_next (leaves_fpException h)
  · exact answers_next (Alike.leaves ⟨rfl, rfl, rfl, rfl, rfl, rfl⟩)
  · refine leaves_loadWith h (.refl s) _ _ _ fun x v => ?_
    obtain ⟨f, y, e⟩ := hk x v
    rw [e]; exact ⟨rfl, rfl, rfl, rfl, rfl, rfl⟩

theorem leaves_fpStore (ea : Word) (size : Size) (v : DWord) {k : State → State} (hk : k = id ∨ k = advanceQueue) :
    Answers (Leaves s) (fpStore ea size v s k) := by
  unfold fpStore; split
  · exact answers_next (leaves_raise h (.refl s) _)
  split
  · exact answers_next (leaves_raise h (.refl s) _)
  split
  · exact answers_next (leaves_fpException h)
  · refine leaves_storeWith h (.refl s) _ _ _ _ fun x => ?_
    rcases hk with rfl | rfl
    · exact .refl x
    · exact alike_advanceQueue x

theorem leaves_cpop (w : Word) : Answers (Leaves s) (cpop w s) := by
  have hh := alike_cpHeld s
  unfold cpop; dsimp only; split
  · exact answers_next (leaves_raise h (.refl s) _)
  split
  · exact answers_next (leaves_cpException h hh)
  · exact answers_next ((hh.trans (alike_withCp ..)).trans (alike_advance _)).leaves

theorem leaves_cpLoad (dest : List Reg) (ea : Word) (size : Size) (k : CpState → DWord → CpState) :
    Answers (Leaves s) (cpLoad dest ea size s k) := by
  have hh := alike_cpHeld s
  have hr := hh.trans (alike_accessed (accessed_readMem (cpHeld s) (dataAsi (cpHeld s)) ea size))
  unfold cpLoad; dsimp only; split
  · exact answers_next (leaves_raise h (alike_cpLoadTrapped s) _)
  split
  · exact answers_next (leaves_raise h (alike_cpLoadTrapped s) _)
  split
  · exact answers_next (leaves_cpException h (hh.trans (alike_cpLoadTrapped _)))
  split <;> rename_i u _ e <;> rw [e] at hr
  · exact answers_next ((hr.trans (alike_withCp ..)).trans (alike_advance _)).leaves
  · exact answers_next (leaves_raise h (hr.trans (alike_withCp ..)) _)

theorem leaves_cpStore (ea : Word) (size : Size) (v : State → DWord) {k : State → State}
    (hk : k = id ∨ k = fun u => withCp u (cpQueueStored s.draws u.cp)) : Answers (Leaves s) (cpStore ea size v s k) := by
  have hh := alike_cpHeld s
  unfold cpStore; dsimp only; split
  · exact answers_next (leaves_raise h (.refl s) _)
  split
  · exact answers_next (leaves_raise h (.refl s) _)
  split
  · exact answers_next (leaves_cpException h hh)
  · refine leaves_storeWith h hh _ _ _ _ fun x => ?_
    rcases hk with rfl | rfl
    · exact .refl x
    · exact alike_withCp ..

theorem leaves_privileged {r : Result} (hr : s.psr.s = true → Answers (Leaves s) r) : Answers (Leaves s) (privileged s r) := by
  unfold privileged; rw [supervisor_eq h]; split
  · rename_i hs; exact hr hs
  · exact answers_next (leaves_raise h (.refl s) _)

theorem leaves_rett (rs1 : Reg) (o : RegOrImm) : Answers (Leaves s) (execRett rs1 o s) := by
  have halt (he : ¬ s.psr.et = true) (t : TrapType) : Answers (Leaves s) (.next { entered s t with mode := .error }) := by
    rw [← enterErrorMode_eq h]
    exact answers_next (leaves_enterTrap h (.refl s) t (.inr ⟨rfl, by simpa using he⟩))
  rw [execRett_eq h]; split
  · rename_i he
    have := leaves_raise h (.refl s) 2
    rw [raise_eq h, trapped, if_pos he] at this
    exact answers_next this
  rename_i he
  split
  · exact halt he 3
  rename_i hs
  split
  · exact halt he 6
  split
  · exact halt he 7
  · exact answers_next (leaves_of_supervisor ((alike_transfer _ _ _).mode) (by simpa using hs))

/-- Every form of an instruction leaves the mode and the privileged state so. -/
theorem leaves_form {w : Bool} {r : Result} (hf : Form s w r) : Answers (Leaves s) r := by
  have raise (t : TrapType) : Answers (Leaves s) (.next (raise s t)) := answers_next (leaves_raise h (.refl s) t)
  have icc (rd : Reg) (v : Word) (c : Icc) : Leaves s (setIcc (finish s rd v) c) := by
    have a := alike_finish s rd v
    exact leaves_psr a.mode a.wim a.tbr (by rw [setIcc_psr, a.psr]; exact ⟨rfl, rfl, rfl⟩) (by rw [setIcc_psr, a.psr]; exact id)
  have window (w : BitVec 3) (rd rs1 : Reg) (o : RegOrImm) : Leaves s (moveWindow w rd rs1 o s) := by
    rw [moveWindow_eq h]; exact leaves_psr rfl rfl rfl ⟨rfl, rfl, rfl⟩ id
  induction hf with
  | finish rd v => exact answers_next (alike_finish ..).leaves
  | flags rd v c => exact answers_next (icc rd v c)
  | tagged op flags rd rs1 o =>
    unfold arithTv; dsimp only; split
    · exact raise _
    · exact answers_next (icc ..)
  | multiply rd v y c =>
    obtain ⟨hm, hu⟩ := icc rd v c
    exact answers_next ⟨hm, hu⟩
  | branch always taken annul d => exact answers_next (alike_branch ..).leaves
  | branchFcc c annul d =>
    unfold branchFcc; split
    · exact raise _
    split
    · exact answers_next (leaves_fpException h)
    · exact answers_next (alike_branch ..).leaves
  | branchCcc c annul d =>
    have hc : Alike s (cpCompared s) := alike_withCp ..
    unfold branchCcc; dsimp only; split
    · exact raise _
    split
    · exact answers_next (leaves_cpException h hc)
    · exact answers_next (hc.trans (alike_branch ..)).leaves
  | trapIcc c rs1 o =>
    unfold trapIcc; split
    · exact raise _
    · exact answers_next (alike_advance s).leaves
  | call d => exact answers_next ((alike_writeReg ..).trans (alike_transfer ..)).leaves
  | jmpl rd rs1 o =>
    unfold execJmpl; dsimp only; split
    · exact raise _
    · exact answers_next ((alike_writeReg ..).trans (alike_transfer ..)).leaves
  | rett rs1 o => exact leaves_rett h rs1 o
  | save rd rs1 o =>
    unfold execSave; dsimp only; split
    · exact raise _
    · exact answers_next (window ..)
  | restore rd rs1 o =>
    unfold execRestore; dsimp only; split
    · exact raise _
    · exact answers_next (window ..)
  | load conv asi ea size rd => exact leaves_loadWith h (.refl s) asi ea size fun x v => alike_writeReg ..
  | loadPair asi ea rd =>
    exact leaves_loadWith h (.refl s) asi ea .double fun x v => (alike_writeReg ..).trans (alike_writeReg ..)
  | store asi ea size v => exact leaves_storeWith h (.refl s) asi ea size v fun x => .refl x
  | exchange asi ea size v rd => exact leaves_exchangeWith h asi ea size v rd
  | privileged _ ih => exact leaves_privileged h fun _ => ih
  | fpop w e => exact leaves_fpop h w e
  | fpLoad ea size k hk => exact leaves_fpLoad h ea size hk
  | fpStore ea size v k hk => exact leaves_fpStore h ea size v hk
  | cpop w => exact leaves_cpop h w
  | cpLoad dest ea size k hk => exact leaves_cpLoad h dest ea size k
  | cpStore ea size v k hk => exact leaves_cpStore h ea size v hk
  | wry rs1 o => exact answers_next (Alike.leaves ⟨rfl, rfl, rfl, rfl, rfl, rfl⟩)
  | wrpsr rs1 o =>
    unfold execWrpsr; dsimp only; split
    · exact raise _
    · exact leaves_privileged h fun hs => answers_next (leaves_of_supervisor rfl hs)
  | wrwim v => exact leaves_privileged h fun hs => answers_next (leaves_of_supervisor rfl hs)
  | wrtba v => exact leaves_privileged h fun hs => answers_next (leaves_of_supervisor rfl hs)
  | advance => exact answers_next (alike_advance s).leaves
  | trap t => exact raise t

end

/-- Settles O47. -/
theorem userModeIsLeftOnlyByATrap : Obligations.UserModeIsLeftOnlyByATrap := by
  intro s t i h hs ht
  obtain ⟨hm, hu⟩ := (leaves_form h (exec_form i s)).elim ht
  obtain ⟨ef, ec, pil, wim, tba, trap⟩ := hu hs
  refine ⟨ef, ec, pil, wim, tba, fun hp => ?_⟩
  obtain ⟨et, ps, cwp, pc, npc⟩ := trap hp
  exact ⟨et, ps, cwp, pc, npc, hm⟩

/-- Settles O48. -/
theorem errorModeOnlyWithTrapsDisabled : Obligations.ErrorModeOnlyWithTrapsDisabled := by
  intro s t i h hs ht he
  rcases ((leaves_form h (exec_form i s)).elim ht).mode with hm | ⟨-, et⟩
  · rw [he, hs] at hm; cases hm
  · exact et

/-! ## Memory (20_memory.md section 2) -/

section
variable (s : State)

theorem advance_mem : (advance s).mem = s.mem := rfl

theorem writeReg_mem (u : Use) (r : Reg) (v : Word) : (writeReg s u r v).mem = s.mem := by
  unfold writeReg; split <;> rw [setRegIn_eq]

theorem finish_mem (rd : Reg) (v : Word) : (finish s rd v).mem = s.mem := writeReg_mem ..

theorem raise_mem (t : TrapType) : (raise s t).mem = s.mem := by
  unfold raise enterErrorMode; split <;> rw [enterTrap_eq]

theorem transfer_mem (p q : Word) : (transfer s p q).mem = s.mem := by unfold transfer; split <;> rfl

theorem branch_mem (always taken annul : Bool) (d : Int) : (branch always taken annul d s).mem = s.mem := by
  unfold branch; dsimp only; split <;> split <;> exact transfer_mem ..

theorem moveWindow_mem (w : BitVec 3) (rd rs1 : Reg) (o : RegOrImm) : (moveWindow w rd rs1 o s).mem = s.mem := by
  simp only [moveWindow, setRegIn_eq]; rfl

theorem cpHeld_mem : (cpHeld s).mem = s.mem := by rw [cpHeld_eq]; rfl

theorem hasCmu_cpHeld : hasCmu (cpHeld s) = hasCmu s := by rw [cpHeld_eq]; rfl

theorem cpLoadTrapped_mem : (cpLoadTrapped s).mem = s.mem := by unfold cpLoadTrapped; split <;> rfl

theorem cpLoadAborted_mem (dest : List Reg) : (cpLoadAborted dest s).mem = s.mem := by
  obtain ⟨c, hc, -⟩ := cpLoadAborted_eq dest s
  rw [hc, withCp]

theorem fpComplete_mem (w : Word) (e : FpOutcome) : (fpComplete s w e).mem = s.mem := by
  cases e with
  | unimplemented | unfinished => rfl
  | done raised v =>
    unfold fpComplete; dsimp only; split
    · rfl
    · cases v <;> rfl

end

/-- The memory of `t` is that of `s`. -/
def SameMem (s t : State) : Prop := t.mem = s.mem

section
variable {s : State}

theorem sameMem_raise (t : TrapType) : SameMem s (raise s t) := raise_mem s t

theorem sameMem_loadWith {u : State} (hc : hasCmu u = false) (hm : SameMem s u) (asi : Asi) (ea : Word) (size : Size)
    {k : State → DWord → State} (hk : ∀ x v, (k x v).mem = x.mem) : Answers (SameMem s) (loadWith asi ea size u k) := by
  have hr : (readMem u asi ea size).1 = u := by rw [readMem_bare_eq hc]
  unfold loadWith; split
  · exact answers_next ((raise_mem ..).trans hm)
  split <;> rename_i x _ e <;> rw [e] at hr <;> dsimp only at hr <;> subst hr
  · exact answers_next ((hk ..).trans hm)
  · exact answers_next ((raise_mem ..).trans hm)

theorem sameMem_cpLoad (hc : hasCmu s = false) (dest : List Reg) (ea : Word) (size : Size) (k : CpState → DWord → CpState) :
    Answers (SameMem s) (cpLoad dest ea size s k) := by
  have hr : (readMem (cpHeld s) (dataAsi (cpHeld s)) ea size).1 = cpHeld s := by
    rw [readMem_bare_eq ((hasCmu_cpHeld s).trans hc)]
  have hh := cpHeld_mem s
  unfold cpLoad; dsimp only; split
  · exact answers_next ((raise_mem ..).trans (cpLoadTrapped_mem s))
  split
  · exact answers_next ((raise_mem ..).trans (cpLoadTrapped_mem s))
  split
  · exact answers_next ((raise_mem ..).trans ((cpLoadTrapped_mem _).trans hh))
  split <;> rename_i x _ e <;> rw [e] at hr <;> dsimp only at hr <;> subst hr
  · exact answers_next hh
  · exact answers_next ((raise_mem ..).trans ((cpLoadAborted_mem ..).trans hh))

/-- Without a CMU a form that is no store keeps memory. -/
theorem sameMem_form (hc : hasCmu s = false) {w : Bool} {r : Result} (hf : Form s w r) (hw : w = false) :
    Answers (SameMem s) r := by
  have raise (t : TrapType) : Answers (SameMem s) (.next (raise s t)) := answers_next (raise_mem s t)
  have privileged {r : Result} (hr : Answers (SameMem s) r) : Answers (SameMem s) (privileged s r) := by
    unfold Machine.privileged; split
    · exact hr
    · exact raise _
  induction hf with
  | store | exchange | fpStore | cpStore => cases hw
  | finish rd v => exact answers_next (finish_mem s rd v)
  | flags rd v c | multiply rd v y c => exact answers_next (by simp only [SameMem, setIcc_mem, finish_mem])
  | tagged op flags rd rs1 o =>
    unfold arithTv; dsimp only; split
    · exact raise _
    · exact answers_next (finish_mem ..)
  | branch always taken annul d => exact answers_next (branch_mem ..)
  | branchFcc c annul d =>
    unfold branchFcc; split
    · exact raise _
    split
    · exact answers_next (raise_mem ..)
    · exact answers_next (branch_mem ..)
  | branchCcc c annul d =>
    unfold branchCcc; dsimp only; split
    · exact raise _
    split
    · exact answers_next (raise_mem ..)
    · exact answers_next (branch_mem (cpCompared s) ..)
  | trapIcc c rs1 o =>
    unfold trapIcc; split
    · exact raise _
    · exact answers_next rfl
  | call d => exact answers_next ((transfer_mem ..).trans (writeReg_mem ..))
  | jmpl rd rs1 o =>
    unfold execJmpl; dsimp only; split
    · exact raise _
    · exact answers_next ((transfer_mem ..).trans (writeReg_mem ..))
  | rett rs1 o =>
    have halt (t : TrapType) : Answers (SameMem s) (.next (enterErrorMode s t)) :=
      answers_next (by rw [enterErrorMode, enterTrap_eq]; rfl)
    unfold execRett; dsimp only; split
    · exact raise _
    split
    · exact halt _
    split
    · exact halt _
    split
    · exact halt _
    · exact answers_next (transfer_mem ..)
  | save rd rs1 o =>
    unfold execSave; dsimp only; split
    · exact raise _
    · exact answers_next (moveWindow_mem ..)
  | restore rd rs1 o =>
    unfold execRestore; dsimp only; split
    · exact raise _
    · exact answers_next (moveWindow_mem ..)
  | load conv asi ea size rd => exact sameMem_loadWith hc rfl asi ea size fun x v => writeReg_mem ..
  | loadPair asi ea rd =>
    exact sameMem_loadWith hc rfl asi ea .double fun x v => (writeReg_mem ..).trans (writeReg_mem ..)
  | privileged _ ih => exact privileged (ih hw)
  | fpop w e =>
    unfold fpop; split
    · exact raise _
    split
    · exact answers_next (raise_mem ..)
    · exact answers_next rfl
    · exact answers_next (fpComplete_mem ..)
  | fpLoad ea size k hk =>
    unfold fpLoad; split
    · exact raise _
    split
    · exact raise _
    split
    · exact answers_next (raise_mem ..)
    · exact answers_next rfl
    · refine sameMem_loadWith hc rfl _ _ _ fun x v => ?_
      obtain ⟨f, y, e⟩ := hk x v
      rw [e]
  | cpop w =>
    unfold cpop; dsimp only; split
    · exact raise _
    split
    · exact answers_next ((raise_mem ..).trans (cpHeld_mem s))
    · exact answers_next (cpHeld_mem s)
  | cpLoad dest ea size k hk => exact sameMem_cpLoad hc dest ea size k
  | wrpsr rs1 o =>
    unfold execWrpsr; dsimp only; split
    · exact raise _
    · exact privileged (answers_next rfl)
  | wrwim v | wrtba v => exact privileged (answers_next rfl)
  | wry | advance => exact answers_next rfl
  | trap t => exact raise t

end

/-- Settles O38. -/
theorem onlyStoresWriteMemory : Obligations.OnlyStoresWriteMemory := by
  intro s t i hc hi ht k
  have hm : SameMem s t := (sameMem_form hc (exec_form i s) hi).elim ht
  rw [at', hm]

end Sys2Proof.Claims
end

section
/-! PROOF. The integer loads, stores and atomic load-stores without a CMU (40_load_store.md): where a bank answers an address, where
nothing does, and in the alternate spaces. -/
namespace Sys2Proof.Claims
open Sys2Proof.Machine

/-- Memory answers the address `va` of the address space `asi` at the key `k`, without a CMU and without a memory exception. -/
structure Answered (s : State) (asi : Asi) (va : Word) (k : Nat) : Prop where
  read : ∀ size, misaligned va size = false → readMem s asi va size = (s, some (datumAt s.mem k size))
  write : ∀ size v, writeMem s asi va size v = (storeAt s k size v, true)
  exchange : ∀ size v, exchangeMem s asi va size v = (storeAt s k size v, some (datumAt s.mem k size))

/-- Nothing answers the address: a read gives a free datum and a store is lost (20_memory.md R70, log 24). -/
structure Unanswered (s : State) (asi : Asi) (va : Word) : Prop where
  read : ∀ size, misaligned va size = false → readMem s asi va size = (s, some (freeDatum s va size))
  write : ∀ size v, writeMem s asi va size v = (s, true)
  exchange : ∀ size v, exchangeMem s asi va size v = (s, some (freeDatum s va size))

theorem answered_of_bank {s : State} (q : Quiet s) {asi : Asi} {b : Nat} (hb : bareBank s asi = some b) (va : Word) :
    Answered s asi va (memKey b (pinAddress s va)) :=
  ⟨fun _ ha => readMem_bare q.1 q.2 hb ha, writeMem_bare q.1 q.2 hb va, exchangeMem_bare q.1 q.2 hb va⟩

theorem answered_place {s : State} (q : Quiet s) (va : Word) : Answered s (dataAsi s) va (place s va) :=
  answered_of_bank q (bareBank_dataAsi s) va

theorem unanswered_of_none {s : State} (q : Quiet s) {asi : Asi} (hb : bareBank s asi = none) (va : Word) :
    Unanswered s asi va :=
  ⟨fun _ ha => readMem_silent q.1 q.2 hb ha, writeMem_silent q.1 q.2 hb va, exchangeMem_silent q.1 q.2 hb va⟩

/-- An address that is a multiple of the size is aligned. -/
theorem aligned_of_mod {va : Word} (size : Size) (h : va.toNat % size.bytes = 0) : misaligned va size = false := by
  rw [misaligned_eq]; simpa using h

theorem aligned_byte (va : Word) : misaligned va .byte = false := rfl

theorem setWidth_eq_lowWord (d : DWord) : d.setWidth 32 = lowWord d := by
  apply BitVec.eq_of_getLsbD_eq; intro i hi; simp [lowWord, hi]

theorem settled_storeAt {s : State} (h : Settled s) (k : Nat) (size : Size) (v : DWord) : Settled (storeAt s k size v) := by
  rw [storeAt_eq]; exact h

section
variable {s : State} (h : Settled s) {asi : Asi} {va : Word} {k : Nat} {size : Size}
include h

/-! ## The shapes of an access -/

omit h in
theorem loadWith_of_read {d : DWord} (ha : misaligned va size = false) (hr : readMem s asi va size = (s, some d))
    (f : State → DWord → State) : loadWith asi va size s f = .next (done (f s d)) := by
  rw [loadWith, if_neg (by simp [ha]), hr]; rfl

theorem loadReg_of_read {d : DWord} (ha : misaligned va size = false) (hr : readMem s asi va size = (s, some d))
    (conv : DWord → Word) (rd : Reg) : loadReg conv asi va size rd s = .next (result s rd (conv d)) := by
  rw [loadReg, loadWith_of_read ha hr, writeReg_eq h]; rfl

theorem loadPair_of_read {d : DWord} (ha : misaligned va .double = false) (hr : readMem s asi va .double = (s, some d))
    (rd : Reg) : loadPair asi va rd s = .next (pairResult s rd (highWord d) (lowWord d)) := by
  rw [loadPair, loadWith_of_read ha hr, writeReg_twice_eq h]; rfl

omit h in
theorem storeWith_of_write {t : State} {v : DWord} (ha : misaligned va size = false)
    (hw : writeMem s asi va size v = (t, true)) (f : State → State) : storeWith asi va size v s f = .next (done (f t)) := by
  rw [storeWith, if_neg (by simp [ha]), hw]; rfl

omit h in
theorem exchangeWith_of_exchange {t : State} {v d : DWord} (ht : Settled t) (ha : misaligned va size = false)
    (hx : exchangeMem s asi va size v = (t, some d)) (rd : Reg) :
    exchangeWith asi va size v rd s = .next (result t rd (d.setWidth 32)) := by
  rw [exchangeWith, if_neg (by simp [ha]), hx]
  simp only [finish_eq ht]

omit h in
theorem storeWith_answered (A : Answered s asi va k) (ha : misaligned va size = false) {v : DWord} {bs : List Byte}
    (hb : bs = datumBytes v size) : ∃ t, storeWith asi va size v s id = .next t ∧ StoredAt s (done s) t k bs :=
  ⟨_, storeWith_of_write ha (A.write ..) id, storedAt_of_storeAt done (fun _ _ => rfl) hb⟩

theorem exchangeWith_answered (A : Answered s asi va k) (ha : misaligned va size = false) {v : DWord} {bs : List Byte}
    (rd : Reg) (hb : bs = datumBytes v size) : ∃ t, exchangeWith asi va size v rd s = .next t ∧
      StoredAt s (result s rd ((datumAt s.mem k size).setWidth 32)) t k bs :=
  ⟨_, exchangeWith_of_exchange (settled_storeAt h ..) ha (A.exchange ..) rd,
    storedAt_of_storeAt (fun u => result u rd ((datumAt s.mem k size).setWidth 32)) (fun _ _ => rfl) hb⟩

theorem storeReg_answered (A : Answered s asi va k) (ha : misaligned va size = false) (rd : Reg) {bs : List Byte}
    (hb : bs = datumBytes ((reg s rd).setWidth 64) size) :
    ∃ t, storeReg asi va size rd s = .next t ∧ StoredAt s (done s) t k bs := by
  rw [storeReg, readReg_eq h]; exact storeWith_answered A ha hb

theorem storePair_answered (A : Answered s asi va k) (ha : misaligned va .double = false) (rd : Reg) :
    ∃ t, storePair asi va rd s = .next t ∧
      StoredAt s (done s) t k (bytes4 (reg s (rd &&& 30)) ++ bytes4 (reg s (rd ||| 1))) := by
  rw [storePair, readReg_eq h, readReg_eq h]
  exact storeWith_answered A ha (datumBytes_double _ _).symm

/-! ## The six loads and the six stores, wherever a bank answers -/

theorem loads_answered (A : Answered s asi va k) (rd : Reg) :
    loadReg signedByte asi va .byte rd s = .next (result s rd ((at' s k).signExtend 32)) ∧
    loadReg lowWord asi va .byte rd s = .next (result s rd ((at' s k).setWidth 32)) ∧
    (va.toNat % 2 = 0 →
      loadReg signedHalf asi va .half rd s = .next (result s rd ((at' s k ++ at' s (k + 1)).signExtend 32)) ∧
      loadReg lowWord asi va .half rd s = .next (result s rd ((at' s k ++ at' s (k + 1)).setWidth 32))) ∧
    (va.toNat % 4 = 0 → loadReg lowWord asi va .word rd s = .next (result s rd (wordAt s k))) ∧
    (va.toNat % 8 = 0 → loadPair asi va rd s = .next (pairResult s rd (wordAt s k) (wordAt s (k + 4)))) := by
  have hb := A.read _ (aligned_byte va)
  refine ⟨?_, ?_, fun ha => ?_, fun ha => ?_, fun ha => ?_⟩
  · rw [loadReg_of_read h (aligned_byte va) hb, signedByte_datumAt]
  · rw [loadReg_of_read h (aligned_byte va) hb, lowWord_byte]
  · have ha := aligned_of_mod .half ha
    rw [loadReg_of_read h ha (A.read _ ha), loadReg_of_read h ha (A.read _ ha), signedHalf_datumAt, lowWord_half]
    exact ⟨rfl, rfl⟩
  · have ha := aligned_of_mod .word ha
    rw [loadReg_of_read h ha (A.read _ ha), lowWord_word]; rfl
  · have ha := aligned_of_mod .double ha
    rw [loadPair_of_read h ha (A.read _ ha), highWord_double, lowWord_double]; rfl

theorem stores_answered (A : Answered s asi va k) (rd : Reg) :
    (∃ t, storeReg asi va .byte rd s = .next t ∧ StoredAt s (done s) t k [(reg s rd).extractLsb' 0 8]) ∧
    (va.toNat % 2 = 0 → ∃ t, storeReg asi va .half rd s = .next t ∧
      StoredAt s (done s) t k [(reg s rd).extractLsb' 8 8, (reg s rd).extractLsb' 0 8]) ∧
    (va.toNat % 4 = 0 → ∃ t, storeReg asi va .word rd s = .next t ∧ StoredAt s (done s) t k (bytes4 (reg s rd))) ∧
    (va.toNat % 8 = 0 → ∃ t, storePair asi va rd s = .next t ∧
      StoredAt s (done s) t k (bytes4 (reg s (rd &&& 30)) ++ bytes4 (reg s (rd ||| 1)))) ∧
    (∃ t, exchangeWith asi va .byte 0xFF rd s = .next t ∧
      StoredAt s (result s rd ((at' s k).setWidth 32)) t k [0xFF#8]) ∧
    (va.toNat % 4 = 0 → ∃ t, exchangeWith asi va .word ((readReg s .rdLow rd).setWidth 64) rd s = .next t ∧
      StoredAt s (result s rd (wordAt s k)) t k (bytes4 (reg s rd))) := by
  refine ⟨storeReg_answered h A (aligned_byte va) rd (datumBytes_byte _).symm,
    fun ha => storeReg_answered h A (aligned_of_mod .half ha) rd (datumBytes_half _).symm,
    fun ha => storeReg_answered h A (aligned_of_mod .word ha) rd (datumBytes_word _).symm,
    fun ha => storePair_answered h A (aligned_of_mod .double ha) rd, ?_, fun ha => ?_⟩
  · rw [← lowWord_byte, ← setWidth_eq_lowWord]
    exact exchangeWith_answered h A (aligned_byte va) rd rfl
  · have hw : wordAt s k = (datumAt s.mem k .word).setWidth 32 := by rw [setWidth_eq_lowWord, lowWord_word]; rfl
    rw [readReg_eq h, hw]
    exact exchangeWith_answered h A (aligned_of_mod .word ha) rd (datumBytes_word _).symm

/-! ## Where nothing answers -/

theorem loads_unanswered (U : Unanswered s asi va) (rd : Reg) :
    (∃ v : Byte, loadReg signedByte asi va .byte rd s = .next (result s rd (v.signExtend 32))) ∧
    (∃ v : Byte, loadReg lowWord asi va .byte rd s = .next (result s rd (v.setWidth 32))) ∧
    (va.toNat % 2 = 0 →
      (∃ v : BitVec 16, loadReg signedHalf asi va .half rd s = .next (result s rd (v.signExtend 32))) ∧
      (∃ v : BitVec 16, loadReg lowWord asi va .half rd s = .next (result s rd (v.setWidth 32)))) ∧
    (va.toNat % 4 = 0 → ∃ v, loadReg lowWord asi va .word rd s = .next (result s rd v)) ∧
    (va.toNat % 8 = 0 → ∃ v w, loadPair asi va rd s = .next (pairResult s rd v w)) := by
  have low_of_narrow {n : Nat} (hn : n ≤ 32) (x : BitVec n) : lowWord (x.setWidth 64) = x.setWidth 32 := by
    apply BitVec.eq_of_getLsbD_eq; intro i hi; simp [lowWord, hi]; omega
  have hb := U.read _ (aligned_byte va)
  refine ⟨?_, ?_, fun ha => ?_, fun ha => ?_, fun ha => ?_⟩
  · exact ⟨_, loadReg_of_read h (aligned_byte va) hb ..⟩
  · obtain ⟨v, hv⟩ : ∃ v : Byte, freeDatum s va .byte = v.setWidth 64 := ⟨_, rfl⟩
    exact ⟨v, by rw [loadReg_of_read h (aligned_byte va) hb, hv, low_of_narrow (by decide)]⟩
  · have ha := aligned_of_mod .half ha
    obtain ⟨v, hv⟩ : ∃ v : BitVec 16, freeDatum s va .half = v.setWidth 64 := ⟨_, rfl⟩
    exact ⟨⟨_, loadReg_of_read h ha (U.read _ ha) ..⟩, v,
      by rw [loadReg_of_read h ha (U.read _ ha), hv, low_of_narrow (by decide)]⟩
  · have ha := aligned_of_mod .word ha
    exact ⟨_, loadReg_of_read h ha (U.read _ ha) ..⟩
  · have ha := aligned_of_mod .double ha
    exact ⟨_, _, loadPair_of_read h ha (U.read _ ha) ..⟩

omit h in
theorem storeWith_unanswered (U : Unanswered s asi va) (ha : misaligned va size = false) (v : DWord) :
    storeWith asi va size v s id = .next (done s) := storeWith_of_write ha (U.write ..) id

theorem exchanges_unanswered (U : Unanswered s asi va) (rd : Reg) :
    (∃ v : Byte, exchangeWith asi va .byte 0xFF rd s = .next (result s rd (v.setWidth 32))) ∧
    (va.toNat % 4 = 0 → ∃ v, exchangeWith asi va .word ((readReg s .rdLow rd).setWidth 64) rd s = .next (result s rd v)) := by
  obtain ⟨v, hv⟩ : ∃ v : Byte, freeDatum s va .byte = v.setWidth 64 := ⟨_, rfl⟩
  refine ⟨⟨v, ?_⟩, fun ha => ⟨_, exchangeWith_of_exchange h (aligned_of_mod .word ha) (U.exchange ..) rd⟩⟩
  rw [exchangeWith_of_exchange h (aligned_byte va) (U.exchange ..), hv, BitVec.setWidth_setWidth_of_le _ (by decide)]

/-! ## The alternate spaces in supervisor mode (R104) -/

theorem alternate_of_supervisor (hs : s.psr.s = true) (r : Result) : alternate s r = r := privileged_of_supervisor h hs r

variable (hs : s.psr.s = true) (rd rs1 rs2 : Reg) (asi : Asi)
include hs

theorem exec_loadsA : let va := reg s rs1 + reg s rs2
    exec (.ldsba rd rs1 rs2 asi) s = loadReg signedByte asi va .byte rd s ∧
    exec (.lduba rd rs1 rs2 asi) s = loadReg lowWord asi va .byte rd s ∧
    exec (.ldsha rd rs1 rs2 asi) s = loadReg signedHalf asi va .half rd s ∧
    exec (.lduha rd rs1 rs2 asi) s = loadReg lowWord asi va .half rd s ∧
    exec (.lda rd rs1 rs2 asi) s = loadReg lowWord asi va .word rd s ∧
    exec (.ldda rd rs1 rs2 asi) s = loadPair asi va rd s := by
  have hp := alternate_of_supervisor h hs
  rw [← alternateAddress_eq h]
  exact ⟨hp _, hp _, hp _, hp _, hp _, hp _⟩

theorem exec_storesA : let va := reg s rs1 + reg s rs2
    exec (.stba rd rs1 rs2 asi) s = storeReg asi va .byte rd s ∧
    exec (.stha rd rs1 rs2 asi) s = storeReg asi va .half rd s ∧
    exec (.sta rd rs1 rs2 asi) s = storeReg asi va .word rd s ∧
    exec (.stda rd rs1 rs2 asi) s = storePair asi va rd s ∧
    exec (.ldstuba rd rs1 rs2 asi) s = exchangeWith asi va .byte 0xFF rd s ∧
    exec (.swapa rd rs1 rs2 asi) s = exchangeWith asi va .word ((readReg s .rdLow rd).setWidth 64) rd s := by
  have hp := alternate_of_supervisor h hs
  rw [← alternateAddress_eq h]
  exact ⟨hp _, hp _, hp _, hp _, hp _, hp _⟩

end

/-- Settles O29. -/
theorem integerLoads : Obligations.IntegerLoads := by
  intro s rd rs1 o h q
  have hl := loads_answered h (answered_place q (ea s rs1 o)) rd
  rw [← addressOf_eq h] at hl ⊢
  exact hl

/-- Settles O30. -/
theorem integerStoresAndAtomics : Obligations.IntegerStoresAndAtomics := by
  intro s rd rs1 o h q
  have hs := stores_answered h (answered_place q (ea s rs1 o)) rd
  rw [← addressOf_eq h] at hs ⊢
  exact hs

/-- Settles O31. -/
theorem alternateLoads : Obligations.AlternateLoads := by
  intro s rd rs1 rs2 asi h q hs
  obtain ⟨ldsba, lduba, ldsha, lduha, lda, ldda⟩ := exec_loadsA h hs rd rs1 rs2 asi
  rw [ldsba, lduba, ldsha, lduha, lda, ldda]
  exact ⟨fun b hb => loads_answered h (answered_of_bank q hb _) rd, fun hb => loads_unanswered h (unanswered_of_none q hb _) rd⟩

/-- Settles O32. -/
theorem alternateStores : Obligations.AlternateStores := by
  intro s rd rs1 rs2 asi h q hs
  obtain ⟨stba, stha, sta, stda, ldstuba, swapa⟩ := exec_storesA h hs rd rs1 rs2 asi
  rw [stba, stha, sta, stda, ldstuba, swapa]
  refine ⟨fun b hb => ?_, fun hb => ?_⟩
  · obtain ⟨b1, b2, b4, b8, x1, x4⟩ := stores_answered h (answered_of_bank q hb (reg s rs1 + reg s rs2)) rd
    exact ⟨b1, x1, b2, fun ha => ⟨b4 ha, x4 ha⟩, b8⟩
  · have U := unanswered_of_none q hb (reg s rs1 + reg s rs2)
    refine ⟨fun p hp ha => ?_, exchanges_unanswered h U rd⟩
    simp only [List.mem_cons, List.not_mem_nil, or_false] at hp
    obtain rfl | rfl | rfl | rfl := hp
    · exact stba.trans (storeWith_unanswered U (aligned_byte _) _)
    · exact stha.trans (storeWith_unanswered U (aligned_of_mod .half ha) _)
    · exact sta.trans (storeWith_unanswered U (aligned_of_mod .word ha) _)
    · exact stda.trans (storeWith_unanswered U (aligned_of_mod .double ha) _)

end Sys2Proof.Claims
end

section
/-! PROOF. The floating-point unit at the IU: an FPop, load or store where the unit is disabled, has an exception pending, is in
exception mode or is ready (44_floating_point.md section 4, 40_load_store.md R139 to R149). -/
namespace Sys2Proof.Claims
open Sys2Proof.Machine

section
variable {s : State} (h : Settled s)
include h

theorem fpEnabled_eq_false (hd : s.psr.ef = false ∨ s.plat.fpuPresent = false) : fpEnabled s = false := by
  rw [fpEnabled_of_none h.1]; rcases hd with hd | hd <;> simp [hd]

theorem raiseFpException_eq : raiseFpException s = { trapped s 8 with fpMode := .exception } := by
  have hr : raiseFpException s = trapped { s with fpMode := .exception } 8 := raise_eq (s := { s with fpMode := .exception }) h 8
  rw [hr, trapped, trapped]; cases s.psr.et <;> rfl

/-! ## FPops -/

section
variable (w : Word) (e : FpOutcome)

theorem fpop_disabled (hd : s.psr.ef = false ∨ s.plat.fpuPresent = false) : fpop w e s = .next (trapped s 4) := by
  rw [fpop, fpEnabled_eq_false h hd, raise_eq h]; rfl

theorem fpop_pending (f : FpOn s) (hm : s.fpMode = .pending) :
    fpop w e s = .next { trapped s 8 with fpMode := .exception } := by
  rw [fpop, fpEnabled_eq_true h f]; simp only [hm, raiseFpException_eq h]; rfl

theorem fpop_exception (f : FpOn s) (hm : s.fpMode = .exception) :
    fpop w e s = .next { done s with fsr := { s.fsr with ftt := 4 }, fpMode := .pending } := by
  rw [fpop, fpEnabled_eq_true h f]; simp only [hm]; rfl

omit h in
/-- The end of an FPop and the default advance, in the words of the statements. -/
theorem advance_fpComplete : advance (fpComplete s w e) = ended s w e := by
  cases e with
  | unimplemented | unfinished => rfl
  | done raised v =>
    simp only [fpComplete, ended, meets_eq, decide_eq_true_eq]
    split
    · rfl
    · cases v with
      | single rd x => simp only [applyWrite, writeF_eq, written, or_eq]; rfl
      | double rd x => simp only [applyWrite, writeFd_eq, written, or_eq]; rfl
      | fcc x => simp only [applyWrite, written, or_eq]; rfl

theorem fpop_execution (f : FpOn s) (hm : s.fpMode = .execution) : fpop w e s = .next (ended s w e) := by
  rw [fpop, fpEnabled_eq_true h f, ← advance_fpComplete]; simp only [hm]; rfl

end

/-! ## Loads and stores -/

section
variable {va : Word} {size : Size}

theorem fpLoad_disabled (k : State → DWord → State) (hd : s.psr.ef = false ∨ s.plat.fpuPresent = false) :
    fpLoad va size s k = .next (trapped s 4) := by
  rw [fpLoad, fpEnabled_eq_false h hd, raise_eq h]; rfl

theorem fpStore_disabled (v : DWord) (k : State → State) (hd : s.psr.ef = false ∨ s.plat.fpuPresent = false) :
    fpStore va size v s k = .next (trapped s 4) := by
  rw [fpStore, fpEnabled_eq_false h hd, raise_eq h]; rfl

variable (f : FpOn s)
include f

theorem fpLoad_misaligned (k : State → DWord → State) (ha : misaligned va size = true) :
    fpLoad va size s k = .next (trapped s 7) := by
  simp only [fpLoad, fpEnabled_eq_true h f, ha, raise_eq h]; rfl

theorem fpStore_misaligned (v : DWord) (k : State → State) (ha : misaligned va size = true) :
    fpStore va size v s k = .next (trapped s 7) := by
  simp only [fpStore, fpEnabled_eq_true h f, ha, raise_eq h]; rfl

theorem fpLoad_pending (k : State → DWord → State) (ha : misaligned va size = false) (hm : s.fpMode = .pending) :
    fpLoad va size s k = .next { trapped s 8 with fpMode := .exception } := by
  rw [fpLoad, fpEnabled_eq_true h f]; simp only [ha, hm, raiseFpException_eq h]; rfl

theorem fpStore_pending (v : DWord) (k : State → State) (ha : misaligned va size = false) (hm : s.fpMode = .pending) :
    fpStore va size v s k = .next { trapped s 8 with fpMode := .exception } := by
  rw [fpStore, fpEnabled_eq_true h f, if_pos hm]; simp only [ha, raiseFpException_eq h]; rfl

theorem fpLoad_exception (k : State → DWord → State) (ha : misaligned va size = false) (hm : s.fpMode = .exception) :
    fpLoad va size s k = .next { done s with fsr := { s.fsr with ftt := 4 }, fpMode := .pending } := by
  rw [fpLoad, fpEnabled_eq_true h f]; simp only [ha, hm]; rfl

theorem fpLoad_execution (k : State → DWord → State) (ha : misaligned va size = false) (hm : s.fpMode = .execution) :
    fpLoad va size s k = loadWith (dataAsi s) va size s k := by
  rw [fpLoad, fpEnabled_eq_true h f]; simp only [ha, hm]; rfl

theorem fpStore_ready (v : DWord) (k : State → State) (ha : misaligned va size = false) (hm : s.fpMode ≠ .pending) :
    fpStore va size v s k = storeWith (dataAsi s) va size v s k := by
  rw [fpStore, fpEnabled_eq_true h f, if_neg hm]; simp only [ha]; rfl

end

/-! ## The groups of instructions -/

section
variable (rd rs1 rs2 : Reg) (o : RegOrImm)

omit h in
/-- Every implemented FPop is `fpop` with its end. -/
theorem exec_fpEnds {p : Instr × FpOutcome} (hp : p ∈ fpEnds s rd rs1 rs2) : exec p.1 s = fpop (encode p.1) p.2 s := by
  revert p
  simp only [fpEnds, List.forall_mem_cons, List.not_mem_nil, false_imp_iff, implies_true, and_true]
  refine ⟨?_, ?_, ?_, ?_, ?_, ?_, ?_, ?_, ?_, ?_, ?_, ?_, ?_, ?_, ?_, ?_, ?_, ?_, ?_, ?_, ?_, ?_, ?_⟩ <;> rfl

omit h in
theorem exec_extended {i : Instr} (hi : i ∈ extended rd rs1 rs2) : exec i s = fpop (encode i) .unimplemented s := by
  revert i
  simp only [extended, List.forall_mem_cons, List.not_mem_nil, false_imp_iff, implies_true, and_true]
  refine ⟨?_, ?_, ?_, ?_, ?_, ?_, ?_, ?_, ?_, ?_, ?_, ?_, ?_⟩ <;> rfl

omit h in
theorem exec_fpops {i : Instr} (hi : i ∈ fpops rd rs1 rs2) : ∃ e, exec i s = fpop (encode i) e s := by
  have hl : fpops rd rs1 rs2 = (fpEnds s rd rs1 rs2).map Prod.fst ++ extended rd rs1 rs2 := rfl
  rw [hl, List.mem_append, List.mem_map] at hi
  obtain ⟨p, hp, rfl⟩ | hi := hi
  · exact ⟨_, exec_fpEnds rd rs1 rs2 hp⟩
  · exact ⟨_, exec_extended rd rs1 rs2 hi⟩

theorem exec_fpLoads {p : Instr × Nat} (hp : p ∈ fpLoads rd rs1 o) :
    ∃ (size : Size) (k : State → DWord → State), p.2 = size.bytes ∧ exec p.1 s = fpLoad (ea s rs1 o) size s k := by
  rw [← addressOf_eq h]
  simp only [fpLoads, List.mem_cons, List.not_mem_nil, or_false] at hp
  obtain rfl | rfl | rfl := hp
  · exact ⟨.word, _, rfl, rfl⟩
  · exact ⟨.double, _, rfl, rfl⟩
  · exact ⟨.word, _, rfl, rfl⟩

theorem exec_fpStores {p : Instr × Nat} (hp : p ∈ fpStores rd rs1 o) :
    ∃ (size : Size) (v : DWord), p.2 = size.bytes ∧ exec p.1 s = fpStore (ea s rs1 o) size v s id := by
  rw [← addressOf_eq h]
  simp only [fpStores, List.mem_cons, List.not_mem_nil, or_false] at hp
  obtain rfl | rfl | rfl := hp
  · exact ⟨.word, _, rfl, rfl⟩
  · exact ⟨.double, _, rfl, rfl⟩
  · exact ⟨.word, _, rfl, rfl⟩

theorem exec_stdfq (hs : s.psr.s = true) :
    exec (.stdfq rs1 o) s = fpStore (ea s rs1 o) .double (frontEntry s) s advanceQueue := by
  change execStdfq rs1 o s = _
  rw [execStdfq, supervisor_eq h, addressOf_eq h, hs]; rfl

end

end

/-- Settles O42. -/
theorem fpopCompletion : Obligations.FpopCompletion := by
  intro s rd rs1 rs2 h f
  refine ⟨fun hm p hp => ?_, fun hm i hi => ?_, fun hm i hi => ?_⟩
  · rw [exec_fpEnds rd rs1 rs2 hp, fpop_execution h _ _ f hm]
  · rw [exec_extended rd rs1 rs2 hi, fpop_execution h _ _ f hm]; rfl
  · obtain ⟨e, he⟩ := exec_fpops (s := s) rd rs1 rs2 hi
    rw [he, fpop_exception h _ _ f hm]

/-! ## The loads and stores where the unit is ready -/

theorem loadWith_quiet {s : State} (q : Quiet s) {va : Word} {size : Size} (ha : misaligned va size = false)
    (k : State → DWord → State) :
    loadWith (dataAsi s) va size s k = .next (done (k s (datumAt s.mem (place s va) size))) :=
  loadWith_of_read ha ((answered_place q va).read _ ha) k

/-- The fields LDFSR loads (10_state.md R51). -/
theorem fsrOfWord_fields (old : Fsr) (w : Word) : let x := fsrOfWord old w
    x.rd = w.extractLsb' 30 2 ∧ x.rp = w.extractLsb' 28 2 ∧ x.tem.bits = w.extractLsb' 23 5 ∧ x.ns = w.getLsbD 22 ∧
      x.ftt = old.ftt ∧ x.fcc = w.extractLsb' 10 2 ∧ x.aexc.bits = w.extractLsb' 5 5 ∧ x.cexc.bits = w.extractLsb' 0 5 :=
  ⟨rfl, rfl, bits_ofBits _, rfl, rfl, rfl, bits_ofBits _, bits_ofBits _⟩

/-- Settles O33. -/
theorem floatingLoads : Obligations.FloatingLoads := by
  intro s rd rs1 o h q f e k w
  refine ⟨fun hm => ⟨fun ha => ?_, fun ha => ?_⟩, fun hm p hp ha => ?_⟩
  · have ha := aligned_of_mod .word ha
    have hw : lowWord (datumAt s.mem k .word) = w := lowWord_word ..
    have load (c : State → DWord → State) : fpLoad e .word s c = .next (done (c s (datumAt s.mem k .word))) := by
      rw [fpLoad_execution h f c ha hm, loadWith_quiet q ha]
    refine ⟨?_, fsrOfWord s.fsr w, ?_, fsrOfWord_fields s.fsr w⟩
    · change execLdf rd rs1 o s = _
      rw [execLdf, addressOf_eq h, load, writeF_eq, hw]; rfl
    · change execLdfsr rs1 o s = _
      rw [execLdfsr, addressOf_eq h, load, hw]; rfl
  · have ha := aligned_of_mod .double ha
    change execLddf rd rs1 o s = _
    rw [execLddf, addressOf_eq h, fpLoad_execution h f _ ha hm, loadWith_quiet q ha, writeFd_eq, highWord_double, lowWord_double]
    rfl
  · obtain ⟨size, c, hsize, he⟩ := exec_fpLoads h rd rs1 o hp
    rw [he, fpLoad_exception h f c (aligned_of_mod size (hsize ▸ ha)) hm]

/-- The fields of the word STFSR stores (10_state.md R51, R52, R54). -/
theorem fsrWord_fields (s : State) : let w := fsrWord s
    w.extractLsb' 30 2 = s.fsr.rd ∧ w.extractLsb' 28 2 = s.fsr.rp ∧ w.extractLsb' 23 5 = s.fsr.tem.bits ∧
      w.getLsbD 22 = s.fsr.ns ∧ w.extractLsb' 20 2 = 0#2 ∧ w.extractLsb' 17 3 = 3#3 ∧
      w.extractLsb' 14 3 = s.fsr.ftt ∧ w.getLsbD 13 = !s.fq.isEmpty ∧ w.getLsbD 12 = false ∧
      w.extractLsb' 10 2 = s.fsr.fcc ∧ w.extractLsb' 5 5 = s.fsr.aexc.bits ∧ w.extractLsb' 0 5 = s.fsr.cexc.bits := by
  intro w
  refine ⟨?_, ?_, ?_, ?_, ?_, ?_, ?_, ?_, ?_, ?_, ?_, ?_⟩
  case refine_4 | refine_8 | refine_9 =>
    simp only [w, fsrWord, BitVec.getLsbD_append]
    simp
  all_goals
    apply BitVec.eq_of_getLsbD_eq
    intro i hi
    simp only [w, fsrWord, BitVec.getLsbD_extractLsb', BitVec.getLsbD_append]
    interval_cases i <;> simp

theorem readFd_eq (s : State) (n : Reg) : readFd s n = s.f.getD (n &&& 30).toNat 0 ++ s.f.getD (n ||| 1).toNat 0 := by
  rw [readFd, readF_eq, readF_eq]; rfl

/-- Settles O34. -/
theorem floatingStores : Obligations.FloatingStores := by
  intro s rd rs1 o h q f
  have A := answered_place q (ea s rs1 o)
  refine ⟨fun hm => ?_, fun hs ha => ?_⟩
  · refine ⟨fun ha => ⟨?_, ?_⟩, fun ha => ?_⟩
    · have ha := aligned_of_mod .word ha
      change ∃ t, execStf rd rs1 o s = _ ∧ _
      rw [execStf, addressOf_eq h, fpStore_ready h f _ _ ha hm, readF_eq]
      exact storeWith_answered A ha (datumBytes_word _).symm
    · have ha := aligned_of_mod .word ha
      obtain ⟨t, ht, hst⟩ := storeWith_answered A ha (datumBytes_word (fsrWord s)).symm
      refine ⟨t, fsrWord s, ?_, hst, fsrWord_fields s⟩
      change execStfsr rs1 o s = _
      rw [execStfsr, addressOf_eq h, fpStore_ready h f _ _ ha hm, ht]
    · have ha := aligned_of_mod .double ha
      change ∃ t, execStdf rd rs1 o s = _ ∧ _
      rw [execStdf, addressOf_eq h, fpStore_ready h f _ _ ha hm, readFd_eq]
      exact storeWith_answered A ha (datumBytes_double _ _).symm
  · have ha := aligned_of_mod .double ha
    rw [exec_stdfq h rs1 o hs]
    refine ⟨fun e rest hm hq => ?_, fun hm hq => ?_⟩
    · rw [fpStore_ready h f _ _ ha (by simp [hm])]
      refine ⟨_, storeWith_of_write ha (A.write ..) _, storedAt_of_storeAt (fun u => done (advanceQueue u)) (fun m c => ?_) ?_⟩
      · simp only [advanceQueue, hm, hq, List.tail_cons, List.isEmpty_iff, if_true]; rfl
      · rw [frontEntry, hq]; exact (datumBytes_double _ _).symm
    · rw [fpStore_ready h f _ _ ha (by simp [hm])]
      refine ⟨_, drawWord s .queueAddr, drawWord s .queueInstr, storeWith_of_write ha (A.write ..) _,
        storedAt_of_storeAt (fun u => done (advanceQueue u)) (fun m c => ?_) ?_⟩
      · rw [advanceQueue, if_neg (by simp [hm])]; rfl
      · rw [frontEntry, hq]; exact (datumBytes_double _ _).symm

end Sys2Proof.Claims
end

section
/-! PROOF. The coprocessor at the IU: its wait, then a CPop, load or store where it is disabled, has an exception pending or is ready
(45_coprocessor.md R341 to R345, 40_load_store.md R159 to R166). -/
namespace Sys2Proof.Claims
open Sys2Proof.Machine

section
variable {s : State} (h : Settled s)
include h

theorem cpEnabled_eq_false (hd : s.psr.ec = false ∨ s.plat.cpPresent = false ∨ s.plat.iu = .cy7c611) :
    cpEnabled s = false := by
  rw [cpEnabled_of_none h.1]; rcases hd with hd | hd | hd <;> simp [hd]

omit h in
/-- What a trapped load leaves of a coprocessor that is there (R159). -/
theorem cpLoadTrapped_present (c : CpState) (hp : s.plat.cpPresent = true) (hi : s.plat.iu = .cy7c601) :
    cpLoadTrapped (withCp s c) = withCp s (cpTrapped s c) := by
  have hb : ((withCp s c).plat.cpPresent && decide ((withCp s c).plat.iu = .cy7c601)) = true := by
    simp [withCp, hp, hi]
  rw [cpLoadTrapped, if_pos hb]; rfl

omit h in
theorem cpLoadTrapped_eq (s : State) : cpLoadTrapped s =
    withCp s (if s.plat.cpPresent = true ∧ s.plat.iu = .cy7c601 then cpTrapped s s.cp else s.cp) := by
  rw [cpLoadTrapped]
  by_cases hc : s.plat.cpPresent = true ∧ s.plat.iu = .cy7c601
  · rw [if_pos hc, if_pos (by simp [hc])]; rfl
  · rw [if_neg hc, if_neg (by simpa using hc)]; rfl

/-! ## The unit disabled -/

section
variable {va : Word} {size : Size} (hd : s.psr.ec = false ∨ s.plat.cpPresent = false ∨ s.plat.iu = .cy7c611)
include hd

theorem cpop_disabled (w : Word) : cpop w s = .next (trapped s 36) := by
  rw [cpop, cpEnabled_eq_false h hd, raise_eq h]; rfl

theorem branchCcc_disabled (p : PairCond) (a : Bool) (d : Int) : branchCcc p a d s = .next (trapped s 36) := by
  rw [branchCcc, cpEnabled_eq_false h hd, raise_eq h]; rfl

theorem cpStore_disabled (v : State → DWord) (k : State → State) : cpStore va size v s k = .next (trapped s 36) := by
  rw [cpStore, cpEnabled_eq_false h hd, raise_eq h]; rfl

theorem cpLoad_disabled (dest : List Reg) (k : CpState → DWord → CpState) :
    cpLoad dest va size s k = .next { trapped s 36 with
      cp := if s.plat.cpPresent = true ∧ s.plat.iu = .cy7c601 then cpTrapped s s.cp else s.cp } := by
  rw [cpLoad, cpEnabled_eq_false h hd, cpLoadTrapped_eq, raise_withCp h]; rfl

end

/-! ## The unit enabled -/

section
variable (c : CpOn s) {va : Word} {size : Size}
include c

theorem cpStore_misaligned (v : State → DWord) (k : State → State) (ha : misaligned va size = true) :
    cpStore va size v s k = .next (trapped s 7) := by
  simp only [cpStore, cpEnabled_eq_true h c, ha, raise_eq h]; rfl

theorem cpLoad_misaligned (dest : List Reg) (k : CpState → DWord → CpState) (ha : misaligned va size = true) :
    cpLoad dest va size s k = .next { trapped s 7 with cp := cpTrapped s s.cp } := by
  have ht : cpLoadTrapped s = withCp s (cpTrapped s s.cp) := cpLoadTrapped_present s.cp c.2.1 c.2.2
  simp only [cpLoad, cpEnabled_eq_true h c, ha, ht, raise_withCp h]; rfl

section
variable (hm : (cpHeld s).cp.mode = .pending)
include hm

omit c hm in
theorem raise_cpHeld : raiseCpException (cpHeld s) = { trapped s 40 with cp := { (cpHeld s).cp with mode := .exception } } := by
  conv_lhs => rw [cpHeld_eq]
  exact raiseCpException_eq h _

theorem cpop_pending (w : Word) :
    cpop w s = .next { trapped s 40 with cp := { (cpHeld s).cp with mode := .exception } } := by
  simp only [cpop, cpEnabled_eq_true h c, hm, ← raise_cpHeld h]; rfl

theorem cpStore_pending (v : State → DWord) (k : State → State) (ha : misaligned va size = false) :
    cpStore va size v s k = .next { trapped s 40 with cp := { (cpHeld s).cp with mode := .exception } } := by
  simp only [cpStore, cpEnabled_eq_true h c, ha, hm, ← raise_cpHeld h]; rfl

theorem cpLoad_pending (dest : List Reg) (k : CpState → DWord → CpState) (ha : misaligned va size = false) :
    cpLoad dest va size s k =
      .next { trapped s 40 with cp := { cpTrapped s (cpHeld s).cp with mode := .exception } } := by
  have ht : raiseCpException (cpLoadTrapped (cpHeld s)) =
      { trapped s 40 with cp := { cpTrapped s (cpHeld s).cp with mode := .exception } } := by
    conv_lhs => rw [cpHeld_eq, cpLoadTrapped_present _ c.2.1 c.2.2]
    exact raiseCpException_eq h _
  simp only [cpLoad, cpEnabled_eq_true h c, ha, hm, ht]; rfl

end

section
variable (hm : (cpHeld s).cp.mode ≠ .pending)
include hm

theorem cpop_ready (w : Word) : cpop w s = .next { done s with
    cp := cpAccept s.draws { addr := s.pc, instr := w } (cpHeld s).cp } := by
  have he : (cpHeld s).draws = s.draws ∧ (cpHeld s).pc = s.pc := by rw [cpHeld_eq]; exact ⟨rfl, rfl⟩
  simp only [cpop, cpEnabled_eq_true h c, if_neg hm, he]
  rw [cpHeld_eq]; rfl

theorem cpStore_ready (v : State → DWord) (k : State → State) (ha : misaligned va size = false) :
    cpStore va size v s k = storeWith (dataAsi (cpHeld s)) va size (v (cpHeld s)) (cpHeld s) k := by
  simp only [cpStore, cpEnabled_eq_true h c, if_neg hm, ha]; rfl

theorem cpLoad_of_read {d : DWord} (dest : List Reg) (k : CpState → DWord → CpState) (ha : misaligned va size = false)
    (hr : readMem (cpHeld s) (dataAsi (cpHeld s)) va size = (cpHeld s, some d)) :
    cpLoad dest va size s k = .next { done s with cp := k (cpHeld s).cp d } := by
  simp only [cpLoad, cpEnabled_eq_true h c, if_neg hm, ha, hr]
  rw [cpHeld_eq]; rfl

theorem cpLoad_of_fault (dest : List Reg) (k : CpState → DWord → CpState) (ha : misaligned va size = false)
    (hr : readMem (cpHeld s) (dataAsi (cpHeld s)) va size = (cpHeld s, none)) :
    ∃ r : Vector Word 32, cpLoad dest va size s k = .next { trapped s 9 with cp := { (cpHeld s).cp with c := r } } ∧
      ∀ n ∈ dest, r.getD n.toNat 0 = (cpHeld s).cp.c.getD n.toNat 0 := by
  obtain ⟨r, hc, hk⟩ := cpLoadAborted_eq dest (cpHeld s)
  refine ⟨r, ?_, hk⟩
  simp only [cpLoad, cpEnabled_eq_true h c, if_neg hm, ha, hr, hc]
  rw [← raise_withCp h]
  conv_lhs => rw [cpHeld_eq]
  rfl

end

end

/-! ## The groups of instructions -/

section
variable (rd rs1 rs2 : Reg) (opc : BitVec 9) (o : RegOrImm)

omit h in
theorem exec_cpops {i : Instr} (hi : i ∈ cpops rd rs1 rs2 opc) : exec i s = cpop (encode i) s := by
  simp only [cpops, List.mem_cons, List.not_mem_nil, or_false] at hi
  obtain rfl | rfl := hi <;> rfl

theorem exec_cpStores {p : Instr × Nat} (hp : p ∈ cpStores rd rs1 o) :
    ∃ (size : Size) (v : State → DWord), p.2 = size.bytes ∧ exec p.1 s = cpStore (ea s rs1 o) size v s id := by
  rw [← addressOf_eq h]
  simp only [cpStores, List.mem_cons, List.not_mem_nil, or_false] at hp
  obtain rfl | rfl | rfl := hp
  · exact ⟨.word, fun u => (readC u.cp rd).setWidth 64, rfl, rfl⟩
  · exact ⟨.double, fun u => readC u.cp (evenReg rd) ++ readC u.cp (oddReg rd), rfl, rfl⟩
  · exact ⟨.word, fun u => u.cp.csr.setWidth 64, rfl, rfl⟩

theorem exec_stdcq (hs : s.psr.s = true) : exec (.stdcq rs1 o) s =
    cpStore (ea s rs1 o) .double cpFrontEntry s fun u => withCp u (cpQueueStored s.draws u.cp) := by
  change execStdcq rs1 o s = _
  rw [execStdcq, supervisor_eq h, addressOf_eq h, hs]; rfl

/-- The coprocessor loads, each with the registers it writes. -/
theorem exec_cpLoads {p : Instr × Nat} (hp : p ∈ cpLoads rd rs1 o) :
    ∃ (size : Size) (dest : List Reg) (k : CpState → DWord → CpState), p.2 = size.bytes ∧
      exec p.1 s = cpLoad dest (ea s rs1 o) size s k ∧ dest.map BitVec.toNat = cpLoadsTo rd p.1 := by
  rw [← addressOf_eq h]
  simp only [cpLoads, List.mem_cons, List.not_mem_nil, or_false] at hp
  obtain rfl | rfl | rfl := hp
  · exact ⟨.word, [rd], fun c v => writeC c rd (lowWord v), rfl, rfl, rfl⟩
  · refine ⟨.double, [cpPair rd, cpPair rd + 1],
      fun c v => writeC (writeC c (cpPair rd) (highWord v)) (cpPair rd + 1) (lowWord v), rfl, rfl, ?_⟩
    simp only [List.map_cons, List.map_nil, cpLoadsTo, BitVec.toNat_add, cpPair_toNat]; rfl
  · exact ⟨.word, [], fun c v => withCsr c (lowWord v), rfl, rfl, rfl⟩

end

end

end Sys2Proof.Claims
end

section
/-! PROOF. The coprocessor's instructions, and over all loads and stores: misaligned addresses, memory exceptions, privilege, disabled
units and pending exceptions. -/
namespace Sys2Proof.Claims
open Sys2Proof.Machine

/-! ## The shape of a load, store or atomic load-store -/

/-- `r` is an access of `size` bytes at `va`: which of its cycles read and which write. -/
inductive Access (s : State) (asi : Asi) (va : Word) (size : Size) : (reads writes : Bool) → Result → Prop
  | load (k : State → DWord → State) : Access s asi va size true false (loadWith asi va size s k)
  | store (v : DWord) (k : State → State) : Access s asi va size false true (storeWith asi va size v s k)
  | exchange (v : DWord) (rd : Reg) : Access s asi va size true true (exchangeWith asi va size v rd s)

section
variable {s : State} (h : Settled s) {asi : Asi} {va : Word} {size : Size} {reads writes : Bool} {r : Result}
include h

theorem Access.of_misaligned (a : Access s asi va size reads writes r) (ha : misaligned va size = true) :
    r = .next (trapped s 7) := by
  have hr : raise s ttNotAligned = trapped s 7 := raise_eq h 7
  cases a with
  | load k => rw [loadWith, if_pos ha, hr]
  | store v k => rw [storeWith, if_pos ha, hr]
  | exchange v rd => rw [exchangeWith, if_pos ha, hr]

theorem Access.of_fault (a : Access s asi va size reads writes r) (hc : hasCmu s = false) (ha : misaligned va size = false)
    (hf : reads = true ∧ FaultAt s asi va size.bytes MemFault.onRead ∨
      writes = true ∧ FaultAt s asi va size.bytes MemFault.onWrite) : r = .next (trapped s 9) := by
  have hr : raise s ttDataAccess = trapped s 9 := raise_eq h 9
  have hn : ¬ misaligned va size = true := by simp [ha]
  cases a with
  | load k =>
    rw [loadWith, if_neg hn, readMem_faultAt hc ha (hf.resolve_right (by simp)).2]
    exact congrArg _ hr
  | store v k =>
    rw [storeWith, if_neg hn, writeMem_faultAt hc v (hf.resolve_left (by simp)).2]
    exact congrArg _ hr
  | exchange v rd =>
    rw [exchangeWith, if_neg hn, exchangeMem_faultAt hc v (hf.imp And.right And.right)]
    exact congrArg _ hr

end

theorem misaligned_of_mod {va : Word} {size : Size} (h : va.toNat % size.bytes ≠ 0) : misaligned va size = true := by
  rw [misaligned_eq]; simpa using h

section
variable {s : State} (h : Settled s) (rd rs1 rs2 : Reg) (o : RegOrImm) (asi : Asi) {p : Instr × Nat}
include h

theorem access_loads (hp : p ∈ loads rd rs1 o) :
    ∃ size : Size, p.2 = size.bytes ∧ Access s (dataAsi s) (ea s rs1 o) size true false (exec p.1 s) := by
  rw [← addressOf_eq h]
  simp only [loads, List.mem_cons, List.not_mem_nil, or_false] at hp
  obtain rfl | rfl | rfl | rfl | rfl | rfl := hp
  · exact ⟨.byte, rfl, .load fun u v => writeReg u .rd rd (signedByte v)⟩
  · exact ⟨.byte, rfl, .load fun u v => writeReg u .rd rd (lowWord v)⟩
  · exact ⟨.half, rfl, .load fun u v => writeReg u .rd rd (signedHalf v)⟩
  · exact ⟨.half, rfl, .load fun u v => writeReg u .rd rd (lowWord v)⟩
  · exact ⟨.word, rfl, .load fun u v => writeReg u .rd rd (lowWord v)⟩
  · exact ⟨.double, rfl, .load fun u v =>
      writeReg (writeReg u .rd (evenReg rd) (highWord v)) .rdLow (oddReg rd) (lowWord v)⟩

theorem access_exchanges (hp : p ∈ ([(.ldstub rd rs1 o, 1), (.swap rd rs1 o, 4)] : List (Instr × Nat))) :
    ∃ size : Size, p.2 = size.bytes ∧ Access s (dataAsi s) (ea s rs1 o) size true true (exec p.1 s) := by
  rw [← addressOf_eq h]
  simp only [List.mem_cons, List.not_mem_nil, or_false] at hp
  obtain rfl | rfl := hp
  · exact ⟨.byte, rfl, .exchange 0xFF rd⟩
  · exact ⟨.word, rfl, .exchange ((readReg s .rdLow rd).setWidth 64) rd⟩

theorem access_stores (hp : p ∈ stores rd rs1 o) : ∃ (size : Size) (reads : Bool), p.2 = size.bytes ∧
    Access s (dataAsi s) (ea s rs1 o) size reads true (exec p.1 s) := by
  have hx := @access_exchanges s h rd rs1 o
  rw [← addressOf_eq h] at hx ⊢
  simp only [stores, List.mem_cons, List.not_mem_nil, or_false] at hp
  obtain rfl | rfl | rfl | rfl | hp := hp
  · exact ⟨.byte, false, rfl, .store ((readReg s .rd rd).setWidth 64) id⟩
  · exact ⟨.half, false, rfl, .store ((readReg s .rd rd).setWidth 64) id⟩
  · exact ⟨.word, false, rfl, .store ((readReg s .rd rd).setWidth 64) id⟩
  · exact ⟨.double, false, rfl, .store (readReg s .rd (evenReg rd) ++ readReg s .rdLow (oddReg rd)) id⟩
  · obtain ⟨size, hs, ha⟩ := hx (p := p) (by simpa using hp)
    exact ⟨size, true, hs, ha⟩

variable (hs : s.psr.s = true)
include hs

theorem access_loadsA (hp : p ∈ loadsA rd rs1 rs2 asi) :
    ∃ size : Size, p.2 = size.bytes ∧ Access s asi (reg s rs1 + reg s rs2) size true false (exec p.1 s) := by
  obtain ⟨ldsba, lduba, ldsha, lduha, lda, ldda⟩ := exec_loadsA h hs rd rs1 rs2 asi
  simp only [loadsA, List.mem_cons, List.not_mem_nil, or_false] at hp
  obtain rfl | rfl | rfl | rfl | rfl | rfl := hp
  · exact ⟨.byte, rfl, ldsba ▸ .load _⟩
  · exact ⟨.byte, rfl, lduba ▸ .load _⟩
  · exact ⟨.half, rfl, ldsha ▸ .load _⟩
  · exact ⟨.half, rfl, lduha ▸ .load _⟩
  · exact ⟨.word, rfl, lda ▸ .load _⟩
  · exact ⟨.double, rfl, ldda ▸ .load _⟩

theorem access_exchangesA (hp : p ∈ ([(.ldstuba rd rs1 rs2 asi, 1), (.swapa rd rs1 rs2 asi, 4)] : List (Instr × Nat))) :
    ∃ size : Size, p.2 = size.bytes ∧ Access s asi (reg s rs1 + reg s rs2) size true true (exec p.1 s) := by
  obtain ⟨-, -, -, -, ldstuba, swapa⟩ := exec_storesA h hs rd rs1 rs2 asi
  simp only [List.mem_cons, List.not_mem_nil, or_false] at hp
  obtain rfl | rfl := hp
  · exact ⟨.byte, rfl, ldstuba ▸ .exchange _ _⟩
  · exact ⟨.word, rfl, swapa ▸ .exchange _ _⟩

theorem access_storesA (hp : p ∈ storesA rd rs1 rs2 asi) : ∃ (size : Size) (reads : Bool), p.2 = size.bytes ∧
    Access s asi (reg s rs1 + reg s rs2) size reads true (exec p.1 s) := by
  obtain ⟨stba, stha, sta, stda, -, -⟩ := exec_storesA h hs rd rs1 rs2 asi
  simp only [storesA, List.mem_cons, List.not_mem_nil, or_false] at hp
  obtain rfl | rfl | rfl | rfl | hp := hp
  · exact ⟨.byte, false, rfl, stba ▸ .store _ _⟩
  · exact ⟨.half, false, rfl, stha ▸ .store _ _⟩
  · exact ⟨.word, false, rfl, sta ▸ .store _ _⟩
  · exact ⟨.double, false, rfl, stda ▸ .store _ _⟩
  · obtain ⟨size, hsize, ha⟩ := access_exchangesA h rd rs1 rs2 asi (p := p) hs (by simpa using hp)
    exact ⟨size, true, hsize, ha⟩

end

/-- Settles O36. -/
theorem misalignedAccesses : Obligations.MisalignedAccesses := by
  intro s rd rs1 rs2 o asi h
  refine ⟨fun p hp ha => ?_, fun hs p hp ha => ?_, fun f p hp ha => ?_, fun f hs ha => ?_, fun c p hp ha => ?_, fun c hs ha => ?_,
    fun c p hp ha => ?_⟩
  · rcases List.mem_append.1 hp with hp | hp
    · obtain ⟨size, hsize, a⟩ := access_loads h rd rs1 o hp
      exact a.of_misaligned h (misaligned_of_mod (hsize ▸ ha))
    · obtain ⟨size, _, hsize, a⟩ := access_stores h rd rs1 o hp
      exact a.of_misaligned h (misaligned_of_mod (hsize ▸ ha))
  · rcases List.mem_append.1 hp with hp | hp
    · obtain ⟨size, hsize, a⟩ := access_loadsA h rd rs1 rs2 asi hs hp
      exact a.of_misaligned h (misaligned_of_mod (hsize ▸ ha))
    · obtain ⟨size, _, hsize, a⟩ := access_storesA h rd rs1 rs2 asi hs hp
      exact a.of_misaligned h (misaligned_of_mod (hsize ▸ ha))
  · rcases List.mem_append.1 hp with hp | hp
    · obtain ⟨size, k, hsize, he⟩ := exec_fpLoads h rd rs1 o hp
      rw [he, fpLoad_misaligned h f k (misaligned_of_mod (hsize ▸ ha))]
    · obtain ⟨size, v, hsize, he⟩ := exec_fpStores h rd rs1 o hp
      rw [he, fpStore_misaligned h f v id (misaligned_of_mod (hsize ▸ ha))]
  · rw [exec_stdfq h rs1 o hs, fpStore_misaligned h f _ _ (misaligned_of_mod ha)]
  · obtain ⟨size, v, hsize, he⟩ := exec_cpStores h rd rs1 o hp
    rw [he, cpStore_misaligned h c v id (misaligned_of_mod (hsize ▸ ha))]
  · rw [exec_stdcq h rs1 o hs, cpStore_misaligned h c _ _ (misaligned_of_mod ha)]
  · obtain ⟨size, dest, k, hsize, he, -⟩ := exec_cpLoads h rd rs1 o hp
    rw [he, cpLoad_misaligned h c dest k (misaligned_of_mod (hsize ▸ ha))]

/-- Settles O39. -/
theorem privilegedInstructions : Obligations.PrivilegedInstructions := by
  intro s rd rs1 rs2 asi o h hs
  have user (r : Result) : privileged s r = .next (trapped s 3) := privileged_of_user h hs r
  refine ⟨?_, fun hv => (execWrpsr_legal h rs1 o hv).trans (user _)⟩
  simp only [loadsA, storesA, List.cons_append, List.nil_append, List.map_cons, List.map_nil, List.forall_mem_cons,
    List.not_mem_nil, false_imp_iff, implies_true, and_true]
  refine ⟨user _, user _, user _, user _, user _, user _, user _, user _, user _, user _, user _, user _, ?_, ?_,
    user _, user _, user _, user _, user _⟩
  · exact (privileged_of_not _).trans (user _)
  · exact (privileged_of_not _).trans (user _)

/-- Settles O40. -/
theorem disabledUnits : Obligations.DisabledUnits := by
  intro s rd rs1 rs2 opc o a d h
  refine ⟨fun hd => ⟨fun i hi => ?_, fun hs => ?_⟩, fun hd => ⟨fun i hi => ?_, fun i hi => ?_, fun hs => ?_⟩⟩
  · rcases List.mem_append.1 hi with hi | hi
    · rcases List.mem_append.1 hi with hi | hi
      · obtain ⟨e, he⟩ := exec_fpops (s := s) rd rs1 rs2 hi
        rw [he, fpop_disabled h _ _ hd]
      · obtain ⟨k, -, he, -⟩ := mem_of_forall₂ (fbfcc_conds a d) hi
        rw [he, branchFcc, fpEnabled_eq_false h hd, raise_eq h]; rfl
    · obtain ⟨p, hp, rfl⟩ := List.mem_map.1 hi
      rcases List.mem_append.1 hp with hp | hp
      · obtain ⟨size, k, -, he⟩ := exec_fpLoads h rd rs1 o hp
        rw [he, fpLoad_disabled h k hd]
      · obtain ⟨size, v, -, he⟩ := exec_fpStores h rd rs1 o hp
        rw [he, fpStore_disabled h v id hd]
  · rw [exec_stdfq h rs1 o hs, fpStore_disabled h _ _ hd]
  · rcases List.mem_append.1 hi with hi | hi
    · rcases List.mem_append.1 hi with hi | hi
      · rw [exec_cpops rd rs1 rs2 opc hi, cpop_disabled h hd]
      · obtain ⟨k, -, he, -⟩ := mem_of_forall₂ (cbccc_conds a d) hi
        rw [he, branchCcc_disabled h hd]
    · obtain ⟨p, hp, rfl⟩ := List.mem_map.1 hi
      obtain ⟨size, v, -, he⟩ := exec_cpStores h rd rs1 o hp
      rw [he, cpStore_disabled h hd]
  · obtain ⟨p, hp, rfl⟩ := List.mem_map.1 hi
    obtain ⟨size, dest, k, -, he, -⟩ := exec_cpLoads h rd rs1 o hp
    rw [he, cpLoad_disabled h hd]
  · rw [exec_stdcq h rs1 o hs, cpStore_disabled h hd]

/-! ## The coprocessor after its wait -/

section
variable {s : State} (h : Settled s) (c : CpOn s) (rd rs1 rs2 : Reg) (opc : BitVec 9) (o : RegOrImm)
include h c

/-- After a wait that leaves an exception pending every instruction of the coprocessor takes it (45_coprocessor.md R344). -/
theorem cpException_cpHeld (hm : (cpHeld s).cp.mode = .pending) : CpException s (cpHeld s).cp rd rs1 rs2 opc o := by
  refine ⟨fun i hi => ?_, fun p hp ha => ?_, fun p hp ha => ?_, fun hs ha => ?_⟩
  · rw [exec_cpops rd rs1 rs2 opc hi, cpop_pending h c hm]
  · obtain ⟨size, v, hsize, he⟩ := exec_cpStores h rd rs1 o hp
    rw [he, cpStore_pending h c hm v id (aligned_of_mod size (hsize ▸ ha))]
  · obtain ⟨size, dest, k, hsize, he, -⟩ := exec_cpLoads h rd rs1 o hp
    rw [he, cpLoad_pending h c hm dest k (aligned_of_mod size (hsize ▸ ha))]
  · rw [exec_stdcq h rs1 o hs, cpStore_pending h c hm _ _ (aligned_of_mod .double ha)]

variable (hm : (cpHeld s).cp.mode ≠ .pending)
include hm

omit h c hm in
/-- An access after the wait is one of the same memory system. -/
theorem answered_cpHeld (q : Quiet s) (va : Word) : Answered (cpHeld s) (dataAsi (cpHeld s)) va (place s va) := by
  have hp : place (cpHeld s) va = place s va := by rw [cpHeld_eq]; rfl
  rw [← hp]
  exact answered_place (by rw [cpHeld_eq]; exact q) va

theorem cpLoad_quiet (q : Quiet s) {va : Word} {size : Size} (dest : List Reg) (k : CpState → DWord → CpState)
    (ha : misaligned va size = false) : cpLoad dest va size s k =
      .next { done s with cp := k (cpHeld s).cp (datumAt s.mem (place s va) size) } := by
  have hr := (answered_cpHeld q va).read size ha
  rw [cpHeld_mem] at hr
  exact cpLoad_of_read h c hm dest k ha hr

/-- A store after the wait: `f` is what it does besides, and `u` the state but for memory. -/
theorem cpStore_quiet (q : Quiet s) {va : Word} {size : Size} (v : State → DWord) (f : State → State) {u : State}
    (ha : misaligned va size = false) {bs : List Byte} (hb : bs = datumBytes (v (cpHeld s)) size)
    (hf : ∀ m x, done (f { withCp s (cpHeld s).cp with mem := m, codeHist := x }) = { u with mem := m, codeHist := x }) :
    ∃ t, cpStore va size v s f = .next t ∧ StoredAt s u t (place s va) bs := by
  rw [cpStore_ready h c hm _ _ ha]
  have hw := (answered_cpHeld q va).write size (v (cpHeld s))
  rw [← cpHeld_eq] at hf
  obtain ⟨he, hbytes⟩ := storedAt_of_storeAt (s := cpHeld s) (k := place s va) (fun x => done (f x)) hf hb
  exact ⟨_, storeWith_of_write ha hw f, he, fun j => by rw [hbytes, at', at', cpHeld_mem]⟩

theorem cpEffects_cpHeld : CpEffects s (cpHeld s).cp rd rs1 rs2 opc o := by
  refine ⟨fun i hi => ⟨fun hx => ?_, fun hx => ?_⟩, fun q => ⟨fun ha => ⟨?_, ?_, ?_, ?_⟩, fun ha => ⟨?_, ?_⟩, fun ha hs => ?_⟩⟩
  · rw [exec_cpops rd rs1 rs2 opc hi, cpop_ready h c hm, cpAccept_execution hx]
  · obtain ⟨r, x, he, hq⟩ := cpAccept_exception hx s.draws { addr := s.pc, instr := encode i }
    refine ⟨_, (exec_cpops rd rs1 rs2 opc hi).trans (cpop_ready h c hm _), rfl, ?_, ?_, ?_⟩
    · rw [he]; exact hx
    · rw [he]; rfl
    · rw [he]; exact hq
  · have ha := aligned_of_mod .word ha
    change execLdc rd rs1 o s = _
    rw [execLdc, addressOf_eq h, cpLoad_quiet h c hm q _ _ ha, writeC_eq, lowWord_word]; rfl
  · have ha := aligned_of_mod .word ha
    change execLdcsr rs1 o s = _
    rw [execLdcsr, addressOf_eq h, cpLoad_quiet h c hm q _ _ ha, lowWord_word]; rfl
  · change ∃ t, execStc rd rs1 o s = _ ∧ _
    rw [execStc, addressOf_eq h]
    refine cpStore_quiet h c hm q _ id (aligned_of_mod .word ha) ?_ fun _ _ => rfl
    rw [readC_eq]; exact (datumBytes_word _).symm
  · change ∃ t, execStcsr rs1 o s = _ ∧ _
    rw [execStcsr, addressOf_eq h]
    exact cpStore_quiet h c hm q _ id (aligned_of_mod .word ha) (datumBytes_word _).symm fun _ _ => rfl
  · have ha := aligned_of_mod .double ha
    have hodd : (cpPair rd + 1).toNat = ((cpPair rd).toNat + 1) % 32 := BitVec.toNat_add ..
    change execLddc rd rs1 o s = _
    rw [execLddc, addressOf_eq h, cpLoad_quiet h c hm q _ _ ha, writeC_eq, writeC_eq, highWord_double, lowWord_double, hodd,
      cpPair_toNat]
    rfl
  · change ∃ t, execStdc rd rs1 o s = _ ∧ _
    rw [execStdc, addressOf_eq h]
    refine cpStore_quiet h c hm q _ id (aligned_of_mod .double ha) ?_ fun _ _ => rfl
    rw [readC_eq, readC_eq]; exact (datumBytes_double _ _).symm
  · have hf : ∃ x y : Word, cpFrontEntry (cpHeld s) = x ++ y ∧
        ∀ (f : QueueEntry) (rest : List QueueEntry), (cpHeld s).cp.cq = f :: rest → x = f.addr ∧ y = f.instr := by
      cases hq : (cpHeld s).cp.cq with
      | nil => exact ⟨_, _, by rw [cpFrontEntry, hq], nofun⟩
      | cons e rest => exact ⟨e.addr, e.instr, by rw [cpFrontEntry, hq], fun f rest' he => by cases he; exact ⟨rfl, rfl⟩⟩
    obtain ⟨x, y, hxy, hfront⟩ := hf
    rw [exec_stdcq h rs1 o hs]
    obtain ⟨t, ht, hst⟩ := cpStore_quiet h c hm q (va := ea s rs1 o) (bs := bytes4 x ++ bytes4 y) cpFrontEntry
      (u := { done s with cp := cpQueueStored s.draws (cpHeld s).cp }) (fun u => withCp u (cpQueueStored s.draws u.cp)) (aligned_of_mod .double ha) (by rw [hxy]; exact (datumBytes_double _ _).symm)
      fun _ _ => rfl
    refine ⟨t, x, y, ht, ?_, hfront⟩
    have hmode (l : List QueueEntry) (m : UnitMode) : (if m = .exception && l.isEmpty then UnitMode.execution else m) =
        if m = .exception ∧ l = [] then .execution else m := by
      simp only [Bool.and_eq_true, decide_eq_true_eq, List.isEmpty_iff]
    simp only [← hmode]
    exact hst

end

/-- Settles O35. -/
theorem coprocessorInstructions : Obligations.CoprocessorInstructions := by
  refine ⟨fun s rd rs1 rs2 opc o h c => ⟨fun hm hb => ?_, (cpHeld s).cp, cpReached_cpHeld s, not_comparing_cpHeld s,
    cpException_cpHeld h c rd rs1 rs2 opc o, cpEffects_cpHeld h c rd rs1 rs2 opc o⟩, fun s hb => ?_, fun s hp hi hb hcmp => ?_⟩
  · have he := cpEffects_cpHeld h c rd rs1 rs2 opc o
    rw [cpHeld_of_idle hb] at he
    exact he hm
  · exact ⟨_, rfl, cpEnded_cpEnd hb s.draws 0⟩
  · have halted : iuHalted s = true := by
      rw [iuHalted, (cpComparing_iff _).2 hcmp]; simp [hp, hi]
    obtain ⟨a, ha⟩ := agentTurn_of_iuHalted halted
    have hne : boundary s ≠ .instruction ∧ boundary s ≠ .interrupt := by
      unfold boundary; rw [ha]; split_ifs <;> exact ⟨nofun, nofun⟩
    exact hb.elim hne.1 hne.2

/-- Settles O41. -/
theorem pendingUnitExceptions : Obligations.PendingUnitExceptions := by
  intro s rd rs1 rs2 opc o a d h
  refine ⟨fun f hm => ⟨fun i hi => ?_, fun p hp ha => ?_, fun hs ha => ?_⟩, fun c hm => ?_⟩
  · rcases List.mem_append.1 hi with hi | hi
    · obtain ⟨e, he⟩ := exec_fpops (s := s) rd rs1 rs2 hi
      rw [he, fpop_pending h _ _ f hm]
    · obtain ⟨k, -, ⟨he, -⟩⟩ := mem_of_forall₂ (fbfcc_conds a d) hi
      rw [he, branchFcc, fpEnabled_eq_true h f, if_pos hm, raiseFpException_eq h]; rfl
  · rcases List.mem_append.1 hp with hp | hp
    · obtain ⟨size, k, hsize, he⟩ := exec_fpLoads h rd rs1 o hp
      rw [he, fpLoad_pending h f k (aligned_of_mod size (hsize ▸ ha)) hm]
    · obtain ⟨size, v, hsize, he⟩ := exec_fpStores h rd rs1 o hp
      rw [he, fpStore_pending h f v id (aligned_of_mod size (hsize ▸ ha)) hm]
  · rw [exec_stdfq h rs1 o hs, fpStore_pending h f _ _ (aligned_of_mod .double ha) hm]
  · have hb : cpBusy s.cp = false := by simp [cpBusy, hm]
    have hx := cpException_cpHeld h c rd rs1 rs2 opc o
    have hw := fun k => branchCcc_pending (a := a) (d := d) (p := k) h c
    rw [cpHeld_of_idle hb] at hx
    rw [cpCompared_of_idle hb] at hw
    refine ⟨hx hm, fun i hi => ?_⟩
    obtain ⟨k, -, ⟨he, -⟩⟩ := mem_of_forall₂ (cbccc_conds a d) hi
    rw [he, hw k hm]

/-! ## Memory exceptions (20_memory.md R74) -/

section
variable {s : State} (h : Settled s) (c : CpOn s) (hc : hasCmu s = false) (hm : (cpHeld s).cp.mode ≠ .pending) {va : Word}
  {size : Size} (ha : misaligned va size = false)
include h c hc hm ha

omit h c hc hm ha in
theorem faultAt_cpHeld (n : Nat) (on : MemFault → Bool) :
    FaultAt (cpHeld s) (dataAsi (cpHeld s)) va n on ↔ FaultAt s (dataAsi s) va n on := by
  rw [cpHeld_eq]; rfl

theorem cpLoad_fault (dest : List Reg) (k : CpState → DWord → CpState) (f : FaultAt s (dataAsi s) va size.bytes MemFault.onRead) :
    ∃ r : Vector Word 32, cpLoad dest va size s k = .next { trapped s 9 with cp := { (cpHeld s).cp with c := r } } ∧
      ∀ n ∈ dest, r.getD n.toNat 0 = (cpHeld s).cp.c.getD n.toNat 0 :=
  cpLoad_of_fault h c hm dest k ha (readMem_faultAt ((hasCmu_cpHeld s).trans hc) ha ((faultAt_cpHeld ..).2 f))

theorem cpStore_fault (v : State → DWord) (k : State → State) (f : FaultAt s (dataAsi s) va size.bytes MemFault.onWrite) :
    cpStore va size v s k = .next { trapped s 9 with cp := (cpHeld s).cp } := by
  have hsettled : Settled (cpHeld s) := by rw [cpHeld_eq]; exact h
  have ht : trapped (cpHeld s) 9 = { trapped s 9 with cp := (cpHeld s).cp } := by
    conv_lhs => rw [cpHeld_eq]
    exact trapped_withCp ..
  have a : Access (cpHeld s) (dataAsi (cpHeld s)) va size false true
      (storeWith (dataAsi (cpHeld s)) va size (v (cpHeld s)) (cpHeld s) k) := .store _ _
  rw [cpStore_ready h c hm v k ha, ← ht]
  exact a.of_fault hsettled ((hasCmu_cpHeld s).trans hc) ha (.inr ⟨rfl, (faultAt_cpHeld ..).2 f⟩)

end

theorem fetch_faultAt {s : State} (hc : hasCmu s = false) (f : FaultAt s (instrAsi s) s.pc 4 MemFault.onFetch) :
    fetch s = (s, none) := by
  have hx : memException s false false true (instrAsi s) s.pc .word = true := by
    obtain ⟨m, hm, hasi, hon, a, h1, h2, h3, h4⟩ := f
    refine List.any_eq_true.2 ⟨m, hm, ?_⟩
    simp [hasi, hon, Size.bytes, show m.lo < pinAddress s s.pc + 4 by omega, show pinAddress s s.pc ≤ m.hi by omega]
  simp [fetch, hc, bareRead, hx]

/-- Settles O37. -/
theorem memoryExceptions : Obligations.MemoryExceptions := by
  intro s rd rs1 rs2 opc o asi h hc e x faulty faultyA
  have aborted (c : CpOn s) (hm : (cpHeld s).cp.mode ≠ .pending) :
      (∀ p ∈ cpLoads rd rs1 o, faulty p MemFault.onRead → ∃ r : Vector Word 32,
        exec p.1 s = .next { trapped s 9 with cp := { (cpHeld s).cp with c := r } } ∧
          ∀ n ∈ cpLoadsTo rd p.1, r.getD n 0 = (cpHeld s).cp.c.getD n 0) ∧
      (∀ p ∈ cpStores rd rs1 o, faulty p MemFault.onWrite → exec p.1 s = .next { trapped s 9 with cp := (cpHeld s).cp }) ∧
      (s.psr.s = true → faulty (.stdcq rs1 o, 8) MemFault.onWrite →
        exec (.stdcq rs1 o) s = .next { trapped s 9 with cp := (cpHeld s).cp }) := by
    refine ⟨fun p hp f => ?_, fun p hp f => ?_, fun hs f => ?_⟩
    · obtain ⟨size, dest, k, hsize, he, hd⟩ := exec_cpLoads h rd rs1 o hp
      obtain ⟨hmod, f⟩ := f
      rw [hsize] at hmod f
      obtain ⟨r, hr, hk⟩ := cpLoad_fault h c hc hm (aligned_of_mod size hmod) dest k f
      refine ⟨r, he.trans hr, fun n hn => ?_⟩
      rw [← hd, List.mem_map] at hn
      obtain ⟨m, hm, rfl⟩ := hn
      exact hk m hm
    · obtain ⟨size, v, hsize, he⟩ := exec_cpStores h rd rs1 o hp
      obtain ⟨hmod, f⟩ := f
      rw [hsize] at hmod f
      rw [he, cpStore_fault h c hc hm (aligned_of_mod size hmod) v id f]
    · rw [exec_stdcq h rs1 o hs, cpStore_fault h c hc hm (aligned_of_mod .double f.1) _ _ f.2]
  refine ⟨fun p hp f => ?_, fun p hp f => ?_, fun p hp f => ?_, fun hs => ⟨fun p hp f => ?_, fun p hp f => ?_, fun p hp f => ?_⟩,
    fun fp hm => ⟨fun hx p hp f => ?_, fun p hp f => ?_, fun hs f => ?_⟩, fun c => ⟨fun hm hb => ?_, (cpHeld s).cp,
      cpReached_cpHeld s, not_comparing_cpHeld s, cpException_cpHeld h c rd rs1 rs2 opc o, aborted c⟩, fun hb f => ?_⟩
  · obtain ⟨size, hsize, a⟩ := access_loads h rd rs1 o hp
    exact a.of_fault h hc (aligned_of_mod size (hsize ▸ f.1)) (.inl ⟨rfl, hsize ▸ f.2⟩)
  · obtain ⟨size, _, hsize, a⟩ := access_stores h rd rs1 o hp
    exact a.of_fault h hc (aligned_of_mod size (hsize ▸ f.1)) (.inr ⟨rfl, hsize ▸ f.2⟩)
  · obtain ⟨size, hsize, a⟩ := access_exchanges h rd rs1 o hp
    exact a.of_fault h hc (aligned_of_mod size (hsize ▸ f.1)) (.inl ⟨rfl, hsize ▸ f.2⟩)
  · obtain ⟨size, hsize, a⟩ := access_loadsA h rd rs1 rs2 asi hs hp
    exact a.of_fault h hc (aligned_of_mod size (hsize ▸ f.1)) (.inl ⟨rfl, hsize ▸ f.2⟩)
  · obtain ⟨size, _, hsize, a⟩ := access_storesA h rd rs1 rs2 asi hs hp
    exact a.of_fault h hc (aligned_of_mod size (hsize ▸ f.1)) (.inr ⟨rfl, hsize ▸ f.2⟩)
  · obtain ⟨size, hsize, a⟩ := access_exchangesA h rd rs1 rs2 asi hs hp
    exact a.of_fault h hc (aligned_of_mod size (hsize ▸ f.1)) (.inl ⟨rfl, hsize ▸ f.2⟩)
  · obtain ⟨size, k, hsize, he⟩ := exec_fpLoads h rd rs1 o hp
    have ha := aligned_of_mod size (hsize ▸ f.1)
    rw [he, fpLoad_execution h fp k ha hx]
    exact (Access.load k).of_fault h hc ha (.inl ⟨rfl, hsize ▸ f.2⟩)
  · obtain ⟨size, v, hsize, he⟩ := exec_fpStores h rd rs1 o hp
    have ha := aligned_of_mod size (hsize ▸ f.1)
    rw [he, fpStore_ready h fp v id ha hm]
    exact (Access.store v id).of_fault h hc ha (.inr ⟨rfl, hsize ▸ f.2⟩)
  · have ha := aligned_of_mod .double f.1
    rw [exec_stdfq h rs1 o hs, fpStore_ready h fp _ _ ha hm]
    exact (Access.store _ _).of_fault h hc ha (.inr ⟨rfl, f.2⟩)
  · have ha := aborted c
    rw [cpHeld_of_idle hb] at ha
    exact ha hm
  · rw [step_of_instruction hb, instructionStep, fetch_faultAt hc f]
    simp only [raise_eq h]; rfl

end Sys2Proof.Claims
end

section
/-! PROOF. The routes of accesses through a CMU (21_mmu_cache.md R611, R612; 22_cmu_registers_faults_reset.md R654). -/
namespace Sys2Proof.Claims
open Sys2Proof.Machine

/-- The multichip comparison, bit by bit (R654). -/
theorem masked_xor_eq_zero_iff : ∀ x y z : BitVec 2,
    (x ^^^ y) &&& ~~~z = 0 ↔ ∀ i : Fin 2, z.getLsbD i = false → x.getLsbD i = y.getLsbD i := by decide

theorem answers_iff (c : Cmu) (va : Word) :
    c.answers va = true ↔ if c.scr.getLsbD 19 then ∀ i : Fin 2, c.scr.getLsbD (20 + i) = false →
      va.getLsbD (16 + i) = c.scr.getLsbD (22 + i) else c.boot = true := by
  unfold Cmu.answers Cmu.mv
  split
  · rw [decide_eq_true_iff, masked_xor_eq_zero_iff]
    simp [Cmu.mca, Cmu.mcm]
  · rfl

section
variable {s : State} {va : Word} (ha : s.cmu.answers va = true)
include ha

theorem cmuSpace_of_answers (asi : Asi) : cmuSpace s asi va = answeredSpace s asi va := if_pos ha

theorem cmuSpace_bypass (n : Fin 16) :
    cmuSpace s (0x20 + BitVec.ofNat 8 n) va = .direct 0 (n * 2 ^ 32 + va.toNat) := by
  rw [cmuSpace_of_answers ha]
  fin_cases n <;> simp [answeredSpace]

theorem cmuSpace_boot {asi : Asi} (hm : asi ∈ ([0x08, 0x09] : List Asi)) (hb : s.cmu.bm = true) :
    cmuSpace s asi va = .direct (mblBank s true) (0xFF * 2 ^ 28 + va.toNat % 2 ^ 28) := by
  have hpa : (0xFF#8 ++ va.extractLsb' 0 28).toNat = 0xFF * 2 ^ 28 + va.toNat % 2 ^ 28 := by
    rw [BitVec.toNat_append, ← Nat.shiftLeft_add_eq_or_of_lt (by omega)]
    simp [Nat.shiftLeft_eq]
  rw [cmuSpace_of_answers ha, ← hpa]
  simp only [List.mem_cons, List.not_mem_nil, or_false] at hm
  obtain rfl | rfl := hm <;> simp [answeredSpace, hb]

theorem cmuSpace_passThrough {asi : Asi} (hm : asi ∈ ([0x08, 0x09, 0x0A, 0x0B] : List Asi)) (hb : s.cmu.bm = false)
    (he : s.cmu.me = false) : cmuSpace s asi va = .direct 0 va.toNat := by
  rw [cmuSpace_of_answers ha]
  simp only [List.mem_cons, List.not_mem_nil, or_false] at hm
  obtain rfl | rfl | rfl | rfl := hm <;> simp [answeredSpace, hb, he, mblBank]

theorem cmuSpace_translated {asi : Asi} (hm : asi ∈ ([0x0A, 0x0B] : List Asi)) (he : s.cmu.me = true) :
    cmuSpace s asi va = .translated := by
  rw [cmuSpace_of_answers ha]
  simp only [List.mem_cons, List.not_mem_nil, or_false] at hm
  obtain rfl | rfl := hm <;> simp [answeredSpace, he]

theorem cmuSpace_fetch {asi : Asi} (hm : asi ∈ ([0x08, 0x09] : List Asi)) (hb : s.cmu.bm = false) (he : s.cmu.me = true) :
    cmuSpace s asi va = .translated := by
  rw [cmuSpace_of_answers ha]
  simp only [List.mem_cons, List.not_mem_nil, or_false] at hm
  obtain rfl | rfl := hm <;> simp [answeredSpace, hb, he]

theorem cmuSpace_registers : cmuSpace s 0x04 va = .registers := cmuSpace_of_answers ha _

theorem cmuSpace_flushProbe : cmuSpace s 0x03 va = .flushProbe := cmuSpace_of_answers ha _

end

theorem cmuSpace_of_not_answers {s : State} {va : Word} (ha : s.cmu.answers va = false) (asi : Asi) :
    cmuSpace s asi va = if s.cmu.scr.getLsbD 19 = false ∧ asi = 0x04 ∧ va.toNat % 2 ^ 16 = 0 then .registers else .silent := by
  have hlow : va.extractLsb' 0 16 = 0#16 ↔ va.toNat % 2 ^ 16 = 0 := by
    rw [← BitVec.toNat_inj]; simp
  rw [cmuSpace, if_neg (by simp [ha])]
  simp [Cmu.mv, hlow, and_assoc]

/-- Settles O60. -/
theorem untranslatedAccesses : Obligations.UntranslatedAccesses := fun s va =>
  ⟨answers_iff s.cmu va,
    fun ha => ⟨cmuSpace_bypass ha, fun _ hm hb => cmuSpace_boot ha hm hb, fun _ hm hb he => cmuSpace_passThrough ha hm hb he⟩,
    fun ha => cmuSpace_of_not_answers ha⟩

end Sys2Proof.Claims
end

section
/-! PROOF. The fault record and the CMU's own spaces: registers, TLB flush and probe (22_cmu_registers_faults_reset.md). -/
namespace Sys2Proof.Claims
open Sys2Proof.Machine

/-! ## The fault record -/

section
variable (cbt : Bool) (err : BitVec 3) (l : BitVec 2) (at' ft : BitVec 3) (fav ow : Bool)

theorem sfsrWord_ft : (sfsrWord cbt err l at' ft fav ow).extractLsb' 2 3 = ft := by
  apply BitVec.eq_of_getLsbD_eq
  intro i hi
  simp only [sfsrWord, BitVec.getLsbD_extractLsb', BitVec.getLsbD_append]
  interval_cases i <;> simp

theorem sfsrWord_at : (sfsrWord cbt err l at' ft fav ow).extractLsb' 5 3 = at' := by
  apply BitVec.eq_of_getLsbD_eq
  intro i hi
  simp only [sfsrWord, BitVec.getLsbD_extractLsb', BitVec.getLsbD_append]
  interval_cases i <;> simp

theorem sfsrWord_err : (sfsrWord cbt err l at' ft fav ow).extractLsb' 10 3 = err := by
  apply BitVec.eq_of_getLsbD_eq
  intro i hi
  simp only [sfsrWord, BitVec.getLsbD_extractLsb', BitVec.getLsbD_append]
  interval_cases i <;> simp

theorem sfsrWord_fav : (sfsrWord cbt err l at' ft fav ow).getLsbD 1 = fav := by
  simp only [sfsrWord, BitVec.getLsbD_append]; simp

theorem sfsrWord_ow : (sfsrWord cbt err l at' ft fav ow).getLsbD 0 = ow := by
  simp only [sfsrWord, BitVec.getLsbD_append]; simp

end

/-- The access type of an instruction access. -/
abbrev InstrType (a : BitVec 3) : Prop := a = 2 ∨ a = 3

/-- A second fault is lost (R664). -/
def Lost (c : Cmu) (f : SyncFault) (at' : BitVec 3) : Prop :=
  let ft0 := c.sfsr.extractLsb' 2 3
  ft0 = 4 ∨ (ft0 ≠ 0 ∧ ¬InstrType (c.sfsr.extractLsb' 5 3) ∧ InstrType at' ∧ f.ft ≠ 4)

/-- A recorded fault leaves the OW bit set (R664). -/
def Overwrites (c : Cmu) (at' : BitVec 3) : Prop :=
  c.sfsr.extractLsb' 2 3 ≠ 0 ∧ (¬InstrType (c.sfsr.extractLsb' 5 3) ∨ InstrType at')

theorem faultClass_eq (ft a : BitVec 3) :
    faultClass ft a = if ft = 4#3 then .translate else if InstrType a then .instruction else .data := by
  simp [faultClass, InstrType]

section
variable (c : Cmu) (f : SyncFault) (at' : BitVec 3)

/-- Table 4-16, read as conditions on the two faults (R664). -/
theorem overwrite_iff : let r := overwrite (recordedFault c) (faultClass f.ft at') at'
    (r.1 = true ↔ ¬Lost c f at') ∧ (¬Lost c f at' → (r.2 = true ↔ Overwrites c at')) := by
  simp only [Lost, Overwrites, recordedFault, faultClass_eq]
  generalize c.sfsr.extractLsb' 2 3 = ft0
  by_cases h0 : ft0 = 0#3
  · simp [h0, overwrite]
  · by_cases h4 : ft0 = 4#3
    · simp [h4, overwrite]
    · rw [if_neg (show ¬ft0 = 0 from h0), if_neg h4]
      by_cases hi : InstrType (c.sfsr.extractLsb' 5 3)
      · by_cases hf : f.ft = 4#3
        · simp [hi, hf, h0, h4, overwrite]; exact Iff.rfl
        · by_cases hj : InstrType at' <;> simp [hi, hf, hj, h0, h4, overwrite]
      · by_cases hf : f.ft = 4#3
        · simp [hi, hf, h0, h4, overwrite]
        · by_cases hj : InstrType at' <;> simp [hi, hf, hj, h0, h4, overwrite]

theorem recordSync_of_lost (s : State) (va : Word) (h : Lost s.cmu f at') : recordSync s f at' va = s := by
  have hr := (overwrite_iff s.cmu f at').1
  simp only [recordSync]
  rw [if_neg (by rw [hr]; exact not_not_intro h)]

theorem recordSync_of_not_lost (s : State) (va : Word) (h : ¬Lost s.cmu f at') : let t := recordSync s f at' va
    t = { s with cmu := { s.cmu with sfsr := t.cmu.sfsr, sfar := va } } ∧
      t.cmu.sfsr.extractLsb' 2 3 = f.ft ∧ t.cmu.sfsr.extractLsb' 5 3 = at' ∧ t.cmu.sfsr.getLsbD 1 = true ∧
      (t.cmu.sfsr.getLsbD 0 = true ↔ Overwrites s.cmu at') := by
  obtain ⟨hr, how⟩ := overwrite_iff s.cmu f at'
  simp only [recordSync]
  rw [if_pos (hr.2 h)]
  exact ⟨rfl, sfsrWord_ft .., sfsrWord_at .., sfsrWord_fav .., by rw [← how h]; exact Bool.eq_iff_iff.1 (sfsrWord_ow ..)⟩

/-- With no fault on record every fault is recorded, with OW = 0. -/
theorem recorded_of_none (s : State) (va : Word) (h : s.cmu.sfsr.extractLsb' 2 3 = 0) :
    Recorded s (recordSync s f at' va) f at' va := by
  have hl : ¬Lost s.cmu f at' := by simp [Lost, h]
  obtain ⟨hu, hft, hat, hfav, how⟩ := recordSync_of_not_lost f at' s va hl
  exact ⟨hu, hft, hat, hfav, by simpa [Overwrites, h] using how⟩

end

/-! ## A word access of the CMU's own spaces -/

theorem withReserved_and (s : State) (mask v : Word) : withReserved s mask v &&& mask = v &&& mask := by
  unfold withReserved
  split
  · rfl
  · apply BitVec.eq_of_getLsbD_eq
    intro i hi
    simp only [BitVec.getLsbD_and, BitVec.getLsbD_or, BitVec.getLsbD_not, hi, decide_true, Bool.true_and]
    cases mask.getLsbD i <;> simp

theorem extractLsb'_withReserved (s : State) {mask : Word} {i n : Nat} (hm : mask.extractLsb' i n = BitVec.allOnes n) (v : Word) :
    (withReserved s mask v).extractLsb' i n = v.extractLsb' i n := by
  have h := congrArg (BitVec.extractLsb' i n) (withReserved_and s mask v)
  simpa only [BitVec.extractLsb'_and, hm, BitVec.and_allOnes] using h

theorem lowWord_setWidth (w : Word) : lowWord (w.setWidth 64) = w := by
  rw [← setWidth_eq_lowWord, BitVec.setWidth_setWidth_of_le _ (by decide), BitVec.setWidth_eq]

theorem low16_toNat (va : Word) : (va.extractLsb' 0 16).toNat = va.toNat % 2 ^ 16 := by simp

theorem settled_of_accessed {s t : State} (h : Settled s) (a : Accessed s t) : Settled t := by rw [a.1]; exact h

section
variable {s : State} (h : Settled s) (hc : hasCmu s = true) (hs : s.psr.s = true) {asi : Asi} {rd rs1 rs2 : Reg}
  (hm : (reg s rs1 + reg s rs2).toNat % 4 = 0)
include h hc hs hm

theorem exec_lda_of_read {t : State} {p : Loaded} (hr : cmuRead s asi (reg s rs1 + reg s rs2) .word = (t, some p)) :
    exec (.lda rd rs1 rs2 asi) s = .next (result t rd (lowWord p.value)) := by
  obtain ⟨-, -, -, -, lda, -⟩ := exec_loadsA h hs rd rs1 rs2 asi
  have ht : Settled t := settled_of_accessed h (by simpa [hr] using accessed_cmuRead s asi (reg s rs1 + reg s rs2) .word)
  have hread : readMem s asi (reg s rs1 + reg s rs2) .word = (t, some p.value) := by
    change readOne s asi _ .word = _
    rw [readOne, if_pos hc, hr]; rfl
  rw [lda, loadReg, loadWith, if_neg (by simp [aligned_of_mod .word hm]), hread]
  simp only [writeReg_eq ht]; rfl

theorem exec_sta_of_store {t : State}
    (hw : cmuStore s asi (reg s rs1 + reg s rs2) .word ((reg s rd).setWidth 64) = (t, true)) :
    exec (.sta rd rs1 rs2 asi) s = .next (done t) := by
  obtain ⟨-, -, sta, -⟩ := exec_storesA h hs rd rs1 rs2 asi
  rw [sta, storeReg, readReg_eq h, storeWith_of_write (aligned_of_mod .word hm) ((if_pos hc).trans hw)]; rfl

variable (ha : s.cmu.answers (reg s rs1 + reg s rs2) = true)
include ha

theorem exec_lda_register {t : State} {w : Word}
    (hr : readCmuReg s ((reg s rs1 + reg s rs2).toNat % 2 ^ 16) = some (t, w)) :
    exec (.lda rd rs1 rs2 0x04) s = .next (result t rd w) := by
  rw [exec_lda_of_read h hc hs hm (t := t) (p := ⟨w.setWidth 64, []⟩), lowWord_setWidth]
  rw [← low16_toNat] at hr
  simp only [cmuRead, cmuSpace_registers ha, cmuSpaceRead, hr, Option.map_some]

theorem exec_lda_probe {t : State} {w : Word} (hr : probe s (reg s rs1 + reg s rs2) = (t, w)) :
    exec (.lda rd rs1 rs2 0x03) s = .next (result t rd w) := by
  rw [exec_lda_of_read h hc hs hm (t := t) (p := ⟨w.setWidth 64, []⟩), lowWord_setWidth]
  simp only [cmuRead, cmuSpace_flushProbe ha, cmuSpaceRead, hr]

theorem exec_sta_register {c : Cmu} (hn : (reg s rs1 + reg s rs2).toNat % 2 ^ 16 ≠ 0x700)
    (hr : writeCmuReg s ((reg s rs1 + reg s rs2).toNat % 2 ^ 16) (reg s rd) = some c) :
    exec (.sta rd rs1 rs2 0x04) s = .next { done s with cmu := c } := by
  have hl : BitVec.extractLsb' 0 32 ((reg s rd).setWidth 64) = reg s rd := lowWord_setWidth _
  rw [exec_sta_of_store h hc hs hm (t := withCmu s c)]; rfl
  simp only [cmuStore, cmuSpace_registers ha, cmuSpaceStore, settleSer, low16_toNat, hn, hl, decide_false, Bool.false_and,
    Bool.false_eq_true, if_false, hr]

theorem exec_sta_flush :
    exec (.sta rd rs1 rs2 0x03) s = .next { done s with cmu := (tlbFlush s (reg s rs1 + reg s rs2)).cmu } := by
  rw [exec_sta_of_store h hc hs hm (t := tlbFlush s (reg s rs1 + reg s rs2))]; rfl
  simp only [cmuStore, cmuSpace_flushProbe ha, cmuSpaceStore]

end

/-- Settles O53. -/
theorem faultRecordOverwrite : Obligations.FaultRecordOverwrite := by
  refine ⟨fun s f at' va => ⟨recordSync_of_lost f at' s va, recordSync_of_not_lost f at' s va⟩,
    fun s rd rs1 rs2 h hc hs ha hva => ?_⟩
  refine ⟨withReserved s (sfsrMask s) s.cmu.sfsr, exec_lda_register h hc hs (by omega) ha (by rw [hva]; rfl), ?_⟩
  exact extractLsb'_withReserved s (by unfold sfsrMask; split <;> rfl) _

/-! ## Stores to CTPR and CXR -/

theorem clearPointers_valid (c : Cmu) : (clearPointers c).rpr.getLsbD 0 = false ∧ (clearPointers c).iptp.getLsbD 0 = false ∧
    (clearPointers c).dptp.getLsbD 0 = false := by simp [clearPointers]

/-- Settles O54. -/
theorem contextWritesInvalidatePointers : Obligations.ContextWritesInvalidatePointers := by
  intro s rd rs1 rs2 h hc hs va ha v hva
  rcases hva with hva | hva
  all_goals have hreg : (reg s rs1 + reg s rs2).toNat % 2 ^ 16 = _ := hva
  · refine ⟨clearPointers { s.cmu with ctpr := v &&& 0xFFFFFC00#32 },
      exec_sta_register h hc hs (by omega) ha (by omega) (by rw [hreg]; rfl), ?_⟩
    obtain ⟨hr, hi, hd⟩ := clearPointers_valid { s.cmu with ctpr := v &&& 0xFFFFFC00#32 }
    exact ⟨(if_pos hva).symm, (if_neg (by omega)).symm, hr, hi, hd, rfl, rfl, rfl, rfl⟩
  · refine ⟨clearPointers { s.cmu with cxr := v &&& 0xFFF#32 },
      exec_sta_register h hc hs (by omega) ha (by omega) (by rw [hreg]; rfl), ?_⟩
    obtain ⟨hr, hi, hd⟩ := clearPointers_valid { s.cmu with cxr := v &&& 0xFFF#32 }
    exact ⟨(if_neg (by omega)).symm, (if_pos hva).symm, hr, hi, hd, rfl, rfl, rfl, rfl⟩

/-! ## Virtual pages and TLB entries -/

theorem vpn_toNat (va : Word) : (va.extractLsb' 12 20).toNat = va.toNat / 2 ^ 12 := by
  simp [Nat.shiftRight_eq_div_pow]; omega

/-- The high bits of two numbers agree where their quotients do. -/
theorem extractLsb'_high_eq_iff {w : Nat} (a b : BitVec w) (n : Nat) :
    a.extractLsb' n (w - n) = b.extractLsb' n (w - n) ↔ a.toNat / 2 ^ n = b.toNat / 2 ^ n := by
  have high (x : BitVec w) : (x.extractLsb' n (w - n)).toNat = x.toNat / 2 ^ n := by
    rw [BitVec.extractLsb'_toNat, Nat.shiftRight_eq_div_pow]
    apply Nat.mod_eq_of_lt
    rw [Nat.div_lt_iff_lt_mul (by positivity), ← pow_add]
    exact lt_of_lt_of_le x.isLt (Nat.pow_le_pow_right (by decide) (by omega))
  rw [← BitVec.toNat_inj, high, high]

theorem accSupervisor_iff : ∀ acc : BitVec 3, accSupervisor acc = true ↔ 6 ≤ acc.toNat := by decide

/-- Table 4-5 (R670). -/
theorem tlbFlushes_eq (s : State) (va : Word) (i : Nat) (e : TlbEntry) {type : Nat} (htype : va.toNat / 256 % 16 = type)
    (ht : type < 5) : tlbFlushes s va i e =
      let here := e.cxn = s.cmu.context ∨ 6 ≤ e.acc.toNat
      let same (n : Nat) : Prop := e.va.toNat / 2 ^ n = va.toNat / 2 ^ 12 / 2 ^ n
      decide ((type = 0 ∧ here ∧ same 0) ∨ (type = 1 ∧ here ∧ same 6) ∨ (type = 2 ∧ here ∧ same 12) ∨
        (type = 3 ∧ e.cxn = s.cmu.context ∧ e.acc.toNat < 6) ∨ type = 4) := by
  have hfield : (va.extractLsb' 8 4).toNat = type := by simp [Nat.shiftRight_eq_div_pow, htype]
  have h0 : e.va = va.extractLsb' 12 20 ↔ e.va.toNat = va.toNat / 2 ^ 12 := by rw [← BitVec.toNat_inj, vpn_toNat]
  have h6 := extractLsb'_high_eq_iff e.va (va.extractLsb' 12 20) 6
  have h12 := extractLsb'_high_eq_iff e.va (va.extractLsb' 12 20) 12
  rw [vpn_toNat] at h6 h12
  have hacc := accSupervisor_iff e.acc
  simp only [tlbFlushes, hfield]
  rw [Bool.eq_iff_iff, decide_eq_true_iff]
  interval_cases type
  · simp [h0, hacc]
  · simpa [hacc] using fun _ => h6
  · simpa [hacc] using fun _ => h12
  · simp [← Bool.not_eq_true, hacc]
  · simp

/-- Settles O55. -/
theorem tlbFlush : Obligations.TlbFlush := by
  intro s rd rs1 rs2 h hc hs va type ha hm ht
  refine ⟨_, exec_sta_flush h hc hs hm ha, by simp [Machine.tlbFlush], by simp [Machine.tlbFlush], rfl, rfl, fun i => ?_⟩
  intro e here same
  calc (Machine.tlbFlush s va).cmu.tlb[i] = if tlbFlushes s va i e then { e with v := false } else e := by
        simp [Machine.tlbFlush, e]
    _ = { e with v := e.v && !tlbFlushes s va i e } := by cases tlbFlushes s va i e <;> simp
    _ = _ := by rw [tlbFlushes_eq s va i e rfl ht]

/-! ## The probe -/

theorem tlbVictim_lt (s : State) : tlbVictim s < 64 := by
  have := s.cmu.rc.isLt
  have := Nat.mod_lt (drawNat s .cmuReplace) (show 0 < 64 - min s.cmu.rc.toNat s.cmu.irc.toNat by omega)
  unfold tlbVictim; dsimp only; omega

/-- A failed probe updates the error fields, L and FT alone (R671). -/
theorem recordProbe_fields (s : State) (f : SyncFault) : let w := (recordProbe s f).cmu.sfsr
    w.extractLsb' 2 3 = f.ft ∧ w.extractLsb' 10 3 = errorBits f.err ∧
      w.extractLsb' 5 3 = s.cmu.sfsr.extractLsb' 5 3 ∧ w.extractLsb' 0 2 = s.cmu.sfsr.extractLsb' 0 2 := by
  intro w
  refine ⟨?_, ?_, ?_, ?_⟩
  all_goals
    apply BitVec.eq_of_getLsbD_eq
    intro i hi
    simp only [w, recordProbe, withCmu_cmu, sfsrWord, BitVec.getLsbD_extractLsb', BitVec.getLsbD_or, BitVec.getLsbD_and,
      BitVec.getLsbD_append]
    interval_cases i <;> simp

/-- A replacement loads one entry, at or above the lowest value the counter may have. -/
theorem loadTlb_entries (s : State) (e : TlbEntry) : ∃ i : Fin 64, min s.cmu.rc.toNat s.cmu.irc.toNat ≤ i ∧
    (loadTlb s e).cmu.tlb[i] = e ∧ ∀ j : Fin 64, j ≠ i → (loadTlb s e).cmu.tlb[j] = s.cmu.tlb[j] := by
  refine ⟨⟨tlbVictim s, tlbVictim_lt s⟩, Nat.le_add_right .., ?_, fun j hj => ?_⟩
  · simp [loadTlb, setTlb]
  · have hne : tlbVictim s ≠ j := fun he => hj (Fin.ext he.symm)
    simp [loadTlb, setTlb, hne]

/-- Settles O56. -/
theorem probe : Obligations.Probe := by
  intro s rd rs1 rs2 h hc hs va vpn ha hm
  refine ⟨fun i hi => ?_, fun s1 pte level hn hw => ?_, fun s1 f hn hw => ?_⟩
  · exact exec_lda_probe h hc hs hm ha (by simp only [Machine.probe, va, vpn] at hi ⊢; rw [hi]; rfl)
  · refine ⟨refresh (loadTlb s1 (entryOfPte pte level vpn s.cmu.context)), exec_lda_probe h hc hs hm ha ?_, rfl, ?_⟩
    · simp only [Machine.probe, va, vpn] at hn hw ⊢
      rw [hn]; simp only [hw]
    · obtain ⟨i, -, hi, hj⟩ := loadTlb_entries s1 (entryOfPte pte level vpn s.cmu.context)
      exact ⟨i, hi, hj⟩
  · refine ⟨(recordProbe s1 f).cmu.sfsr, exec_lda_probe h hc hs hm ha (t := recordProbe s1 f) ?_, ?_⟩
    · simp only [Machine.probe, va, vpn] at hn hw ⊢
      rw [hn]; simp only [hw]
    · exact recordProbe_fields s1 f

end Sys2Proof.Claims
end

section
/-! PROOF. Address translation: the matches of the TLB, the address of a hit, and a table walk (21_mmu_cache.md). -/
namespace Sys2Proof.Claims
open Sys2Proof.Machine

/-- A concatenation, as a number. -/
theorem toNat_append_eq {n m : Nat} (a : BitVec n) (b : BitVec m) : (a ++ b).toNat = a.toNat * 2 ^ m + b.toNat := by
  rw [BitVec.toNat_append, ← Nat.shiftLeft_add_eq_or_of_lt b.isLt, Nat.shiftLeft_eq]

theorem st_cases (st : BitVec 2) : st.toNat = 0 ∨ st.toNat = 1 ∨ st.toNat = 2 ∨ st.toNat = 3 := by
  have := st.isLt; omega

/-- The number of address bits below a page number, by ST (R604). -/
def pageBits (st : BitVec 2) : Nat := [12, 18, 24, 32].getD st.toNat 0

/-- The index condition of a match compares the bits above the size ST names (R604). -/
theorem indexMatch_iff (st : BitVec 2) (a : BitVec 20) (va : Word) : indexMatch st a (va.extractLsb' 12 20) = true ↔
    a.toNat * 2 ^ 12 / 2 ^ pageBits st = va.toNat / 2 ^ pageBits st := by
  have ha := a.isLt
  have hva := va.isLt
  have h6 := extractLsb'_high_eq_iff a (va.extractLsb' 12 20) 6
  have h12 := extractLsb'_high_eq_iff a (va.extractLsb' 12 20) 12
  rw [vpn_toNat] at h6 h12
  unfold indexMatch pageBits
  rcases st_cases st with h | h | h | h
  · have h0 : a = va.extractLsb' 12 20 ↔ a.toNat = va.toNat / 2 ^ 12 := by rw [← BitVec.toNat_inj, vpn_toNat]
    simp only [h, decide_eq_true_iff, h0]; simp
  · simp only [h, decide_eq_true_iff]; rw [h6]; simp; omega
  · simp only [h, decide_eq_true_iff]; rw [h12]; simp; omega
  · simp [h]; omega

/-- The physical address in a page of a size: the bits above it from the PPN, the rest from the virtual address (R605). -/
theorem physicalPage_address (ppn : BitVec 24) (st : BitVec 2) (va : Word) (c : Bool) (acc : BitVec 3) :
    Page.address { ppn := physicalPage ppn st (va.extractLsb' 12 20), c := c, acc := acc } va =
      ppn.toNat * 2 ^ 12 / 2 ^ pageBits st * 2 ^ pageBits st + va.toNat % 2 ^ pageBits st := by
  have hp := ppn.isLt
  have hva := va.isLt
  unfold Page.address physicalPage pageBits
  rcases st_cases st with h | h | h | h
  all_goals simp only [h, toNat_append_eq]
  all_goals simp [-BitVec.toNat_append, Nat.shiftRight_eq_div_pow]
  all_goals omega

/-- Settles O50. -/
theorem tlbHitAddress : Obligations.TlbHitAddress := by
  refine ⟨fun c va cxn sup i => ?_, fun s va sup at' i hi hc hm => ?_⟩
  · intro e n
    have hx := indexMatch_iff e.st e.va va
    rw [pageBits] at hx
    rw [← hx, ← accSupervisor_iff]
    simp [tlbMatches, TlbEntry.matches, e, and_assoc]
  · refine ⟨(s.cmu.tlb[i]).page (va.extractLsb' 12 20), ?_, rfl, physicalPage_address ..⟩
    have hw : ¬((Purpose.access at').write && !(s.cmu.tlb[i]).m) = true := by
      simpa [Purpose.write] using hm
    simp only [Machine.translate]
    rw [hi]
    exact (if_neg (not_not_intro hc)).trans (if_neg hw)

/-! ## The table walk -/

section
variable {s : State} (hb : s.plat.busFault = []) {va : Word}

theorem entryAddress_zero (cxn : BitVec 12) (hx : cxn = s.cmu.context) :
    (s.cmu.ctpr.extractLsb' 10 22 ++ cxn ++ 0#2).toNat = entryAddress s va 0 := by
  have := s.cmu.ctpr.isLt
  simp only [toNat_append_eq, entryAddress, hx]
  simp [Nat.shiftRight_eq_div_pow]; omega

theorem entryAddress_succ {k : Nat} (hk : k < 3) :
    pointerTarget k (entry s va k) va = entryAddress s va (k + 1) := by
  have := (entry s va k).isLt
  have := va.isLt
  interval_cases k
  all_goals
    simp only [pointerTarget, toNat_append_eq]
    unfold entryAddress
    simp [-BitVec.toNat_append, Nat.shiftRight_eq_div_pow, entry] at *
    omega

include hb

theorem busError_none (write : Bool) (pa n : Nat) : busError s write pa n = none := by simp [busError, hb]

theorem walkFrom_pointer {k : Nat} (hk : k < 3) (hp : (entry s va k).toNat % 4 = 1) (root ptp2 : Option Word) :
    ∃ r q, walkFrom s va (3 - k) (entryAddress s va k) root ptp2 = walkFrom s va (3 - (k + 1)) (entryAddress s va (k + 1)) r q := by
  have hw : (datumAt s.mem (memKey 0 (entryAddress s va k)) .word).setWidth 32 = entry s va k := by
    rw [setWidth_eq_lowWord, lowWord_word]; rfl
  have ht : ((entry s va k).extractLsb' 0 2).toNat = 1 := by simpa using hp
  rw [← entryAddress_succ hk]
  refine ⟨if k = 0 then some (entry s va k) else root, if k = 2 then some (entry s va k) else ptp2, ?_⟩
  interval_cases k
  all_goals
    conv_lhs => unfold walkFrom
    simp only [busError_none hb, hw, ht]
    rfl

theorem walkFrom_pte {k : Nat} (hk : k ≤ 3) (hp : (entry s va k).toNat % 4 = 2) (root ptp2 : Option Word) :
    walkFrom s va (3 - k) (entryAddress s va k) root ptp2 =
      .ok { pte := entry s va k, addr := entryAddress s va k, level := k, root := root, ptp2 := ptp2 } := by
  have hw : (datumAt s.mem (memKey 0 (entryAddress s va k)) .word).setWidth 32 = entry s va k := by
    rw [setWidth_eq_lowWord, lowWord_word]; rfl
  have ht : ((entry s va k).extractLsb' 0 2).toNat = 2 := by simpa using hp
  interval_cases k
  all_goals
    unfold walkFrom
    simp only [busError_none hb, hw, ht]

/-- A walk whose entries down to level `n` are pointers reaches the entry of level `n` (R615, R616). -/
theorem walkFrom_eq {n : Nat} (hn : n ≤ 3) (hp : ∀ k < n, (entry s va k).toNat % 4 = 1) (he : (entry s va n).toNat % 4 = 2) :
    ∀ d ≤ n, ∀ root ptp2, ∃ r q, walkFrom s va (3 - (n - d)) (entryAddress s va (n - d)) root ptp2 =
      .ok { pte := entry s va n, addr := entryAddress s va n, level := n, root := r, ptp2 := q }
  | 0, _, root, ptp2 => ⟨root, ptp2, walkFrom_pte hb hn he root ptp2⟩
  | d + 1, hd, root, ptp2 => by
    obtain ⟨r, q, hstep⟩ := walkFrom_pointer hb (k := n - (d + 1)) (by omega) (hp _ (by omega)) root ptp2
    have hk : n - (d + 1) + 1 = n - d := by omega
    rw [hstep, hk]
    exact walkFrom_eq hn hp he d (by omega) r q

end

theorem fillPointers_kept (c : Cmu) (h : WalkHit) (va : Word) (cxn : BitVec 12) (instr forAccess : Bool) :
    let d := fillPointers c h va cxn instr forAccess
    d.tlb = c.tlb ∧ d.rc = c.rc ∧ d.irc = c.irc := by
  unfold fillPointers
  cases h.root <;> cases h.ptp2 <;> dsimp only <;> repeat' split
  all_goals exact ⟨rfl, rfl, rfl⟩

/-- The page table entry with R set, and M for a write (R618). -/
def marked (e : Word) (write : Bool) : Word := e ||| 0x20#32 ||| (if write then 0x40#32 else 0#32)

theorem marked_fields (e : Word) (write : Bool) : (marked e write).extractLsb' 8 24 = e.extractLsb' 8 24 ∧
    (marked e write).getLsbD 7 = e.getLsbD 7 ∧ (marked e write).extractLsb' 2 3 = e.extractLsb' 2 3 := by
  refine ⟨?_, ?_, ?_⟩
  · apply BitVec.eq_of_getLsbD_eq
    intro i hi
    interval_cases i <;> cases write <;> simp [marked]
  · cases write <;> simp [marked]
  · apply BitVec.eq_of_getLsbD_eq
    intro i hi
    interval_cases i <;> cases write <;> simp [marked]

theorem bytes4_wordAt (s : State) (k : Nat) : bytes4 (wordAt s k) = [at' s k, at' s (k + 1), at' s (k + 2), at' s (k + 3)] := by
  simp only [bytes4, wordAt, List.cons.injEq, and_true]
  refine ⟨?_, ?_, ?_, ?_⟩
  all_goals
    apply BitVec.eq_of_getLsbD_eq
    intro i hi
    simp only [BitVec.getLsbD_extractLsb', BitVec.getLsbD_append]
    interval_cases i <;> simp

/-- The update of an entry, with no bus error: exactly its four bytes take the marked word. -/
theorem updatePte_eq {s : State} (hb : s.plat.busFault = []) {h : WalkHit} (write : Bool)
    (hw : wordAt s (memKey 0 h.addr) = h.pte) : let k := memKey 0 h.addr
    ∃ t, updatePte s h write = .ok (t, marked h.pte write) ∧ t.cmu = s.cmu ∧
      ∀ j, byteAt t.mem j = if k ≤ j ∧ j < k + 4 then (bytes4 (marked h.pte write)).getD (j - k) 0 else byteAt s.mem j := by
  intro k
  by_cases hm : marked h.pte write = h.pte
  · refine ⟨s, if_pos hm, rfl, fun j => ?_⟩
    rw [hm, ← hw, bytes4_wordAt]
    split
    case isFalse => rfl
    case isTrue hj =>
      obtain ⟨i, rfl⟩ := Nat.exists_eq_add_of_le hj.1
      have hi : i < 4 := by omega
      rw [Nat.add_sub_cancel_left]
      interval_cases i <;> simp [k]
  · refine ⟨{ s with mem := setDatum s.mem k .word ((marked h.pte write).setWidth 64) }, ?_, rfl, fun j => ?_⟩
    · refine (if_neg hm).trans ?_
      rw [busError_none hb]; rfl
    · rw [byteAt_setDatum, datumBytes_word]; rfl

section
variable {s : State} {va : Word} {n : Nat} (hn : n ≤ 3) (hb : s.plat.busFault = []) (hw : s.cmu.wbuf = [])
  (hrpr : s.cmu.rpr.getLsbD 0 = false) (hiptp : s.cmu.iptp.getLsbD 0 = false) (hdptp : s.cmu.dptp.getLsbD 0 = false)
  (hp : ∀ k < n, (entry s va k).toNat % 4 = 1) (he : (entry s va n).toNat % 4 = 2)
include hrpr hiptp hdptp

/-- With no cached pointer valid a walk begins at the context table. -/
theorem walk_eq (instr : Bool) : walk s va s.cmu.context instr = walkFrom s va 3 (entryAddress s va 0) none none := by
  have hptp : (if instr then s.cmu.iptp else s.cmu.dptp).getLsbD 0 = false := by cases instr <;> assumption
  rw [walk, if_neg (by simp only [hptp, Bool.and_false, Bool.false_and]; simp), if_neg (by simp only [hrpr, Bool.and_false]; simp), entryAddress_zero _ rfl]

include hn hb hw hp he

theorem tableWalk_eq (at' : BitVec 3) (hc : checkAccess at' ((entry s va n).extractLsb' 2 3) = 0) :
    let key := memKey 0 (entryAddress s va n)
    let e' := marked (entry s va n) (at'.getLsbD 2)
    ∃ t, Machine.tableWalk s va s.cmu.context (.access at') true = (t, .ok (e', n)) ∧
      t.cmu.tlb = s.cmu.tlb ∧ t.cmu.rc = s.cmu.rc ∧ t.cmu.irc = s.cmu.irc ∧
      ∀ j, byteAt t.mem j = if key ≤ j ∧ j < key + 4 then (bytes4 e').getD (j - key) 0 else byteAt s.mem j := by
  obtain ⟨r, q, hwalk⟩ := walkFrom_eq hb hn hp he n le_rfl none none
  rw [Nat.sub_self, Nat.sub_zero, ← walk_eq hrpr hiptp hdptp (Purpose.access at').instr] at hwalk
  let hit : WalkHit := ⟨entry s va n, entryAddress s va n, n, r, q⟩
  obtain ⟨t, ht, hcmu, hmem⟩ := updatePte_eq hb (h := hit) (at'.getLsbD 2) rfl
  obtain ⟨htlb, hrc, hirc⟩ := fillPointers_kept t.cmu hit va s.cmu.context
    (Purpose.access at').instr (true && decide (Purpose.access at' ≠ .line))
  refine ⟨withCmu t (fillPointers t.cmu hit va s.cmu.context _ _), ?_, htlb.trans (by rw [hcmu]), hrc.trans (by rw [hcmu]), hirc.trans (by rw [hcmu]), hmem⟩
  dsimp only [hit] at ht
  simp only [Machine.tableWalk, settleWalk_of_nil hw, hwalk, Purpose.check, hc, Purpose.write, decide_true, Bool.and_true, ht]
  rfl

end

/-- The page number of a page table entry (R616). -/
theorem pte_ppn_toNat (e : Word) : (e.extractLsb' 8 24).toNat = e.toNat / 2 ^ 8 := by
  have := e.isLt
  simp [Nat.shiftRight_eq_div_pow]; omega

theorem pageBits_level {n : Nat} (hn : n ≤ 3) : pageBits (BitVec.ofNat 2 (3 - n)) = [32, 24, 18, 12].getD n 0 := by
  interval_cases n <;> rfl

/-- Settles O51. -/
theorem tableWalk : Obligations.TableWalk := by
  intro s va sup at' n hn hm hb hw hrpr hiptp hdptp hp he e e' size key hc
  obtain ⟨t, hwalk, htlb, hrc, hirc, hmem⟩ := tableWalk_eq hn hb hw hrpr hiptp hdptp hp he at' hc
  obtain ⟨hppn, hcache, hacc⟩ := marked_fields e (at'.getLsbD 2)
  let te := entryOfPte e' n (va.extractLsb' 12 20) s.cmu.context
  obtain ⟨i, hi, hnew, hold⟩ := loadTlb_entries t te
  refine ⟨refresh (loadTlb t te), te.page (va.extractLsb' 12 20), ?_, hcache, ?_, hmem, i, ?_, ?_, fun j hj => ?_⟩
  · simp only [Machine.translate]
    rw [hm]
    simp only [hwalk]
    rfl
  · have hsize : size = 2 ^ pageBits te.st := congrArg (2 ^ ·) (pageBits_level hn).symm
    rw [hsize, ← pte_ppn_toNat, ← hppn]
    exact physicalPage_address ..
  · rwa [hrc, hirc] at hi
  · rw [← hppn, ← hcache, ← hacc]
    exact hnew
  · exact (hold j hj).trans (by rw [htlb])

end Sys2Proof.Claims
end

section
/-! PROOF. The write buffers, snooping on a CY7C605, and the cache of a CY7C604 (21_mmu_cache.md R621 to R628). -/
namespace Sys2Proof.Claims
open Sys2Proof.Machine

/-- Two places that hold the same bytes hold the same datum. -/
theorem datumAt_congr {m m' : List Host.Cell} {k k' : Nat} (size : Size)
    (h : ∀ i < size.bytes, byteAt m (k + i) = byteAt m' (k' + i)) : datumAt m k size = datumAt m' k' size := by
  cases size
  case byte => simp only [datumAt, show byteAt m k = byteAt m' k' from h 0 (by decide)]
  case half =>
    simp only [datumAt, show byteAt m k = byteAt m' k' from h 0 (by decide), h 1 (by decide)]
  case word =>
    simp only [datumAt, show byteAt m k = byteAt m' k' from h 0 (by decide), h 1 (by decide), h 2 (by decide), h 3 (by decide)]
  case double =>
    simp only [datumAt, show byteAt m k = byteAt m' k' from h 0 (by decide), h 1 (by decide), h 2 (by decide), h 3 (by decide),
      h 4 (by decide), h 5 (by decide), h 6 (by decide), h 7 (by decide)]

theorem size_bytes_le (size : Size) : size.bytes ≤ 8 := by cases size <;> decide

/-! ## The write buffers -/

/-- A store's datum takes a buffer of its own where one is free and none holds a line (R625). -/
theorem busWrite_of_room {s : State} (bank pa : Nat) {bs : List Byte} (hb : bs.length ≤ 8) (hl : s.cmu.wbuf.length < 4)
    (h : ∀ b ∈ s.cmu.wbuf, b.bytes.length ≤ 8) : busWrite s bank pa bs =
      { s with cmu := { s.cmu with wbuf := s.cmu.wbuf ++ [{ bank := bank, pa := pa, bytes := bs }] } } := by
  have hline : ¬(decide (bs.length = 32) || s.cmu.wbuf.any WriteBuffer.isLine) = true := by
    simp only [Bool.or_eq_true, decide_eq_true_iff, List.any_eq_true, WriteBuffer.isLine, not_or, not_exists, not_and]
    exact ⟨by omega, fun b hb' => by have := h b hb'; omega⟩
  have hroom : makeRoom s bs.length = s := (if_neg hline).trans (if_pos hl)
  rw [busWrite, hroom]; rfl

section
variable {s : State} {b : WriteBuffer} {rest : List WriteBuffer} (hw : s.cmu.wbuf = b :: rest)
include hw

theorem drainOne_of_none (h : busError s true b.pa b.bytes.length = none) :
    drainOne s = { s with mem := setBytes s.mem (memKey b.bank b.pa) b.bytes, cmu := { s.cmu with wbuf := rest } } := by
  unfold drainOne
  rw [hw]
  simp only [h]
  rfl

theorem drainOne_of_error {e : BusError} (h : busError s true b.pa b.bytes.length = some e) :
    drainOne s = { s with cmu := recordAsync { s.cmu with wbuf := rest } e b.pa } := by
  unfold drainOne
  rw [hw]
  simp only [h]
  rfl

end

theorem recordAsync_of_afo {c : Cmu} (h : c.afsr.getLsbD 0 = true) (e : BusError) (pa : Nat) : recordAsync c e pa = c := if_pos h

theorem recordAsync_frame (c : Cmu) (e : BusError) (pa : Nat) :
    recordAsync c e pa = { c with afsr := (recordAsync c e pa).afsr, afar := (recordAsync c e pa).afar } := by
  unfold recordAsync; split <;> rfl

/-- What AFSR and AFAR tell of a lost write (R653, R666). -/
theorem recordAsync_fields {c : Cmu} (h : c.afsr.getLsbD 0 = false) (e : BusError) (pa : Nat) : let d := recordAsync c e pa
    d.afsr.getLsbD 0 = true ∧ d.afsr.getLsbD 12 = decide (e = .uncorrectable) ∧ d.afsr.getLsbD 11 = decide (e = .timeout) ∧
      d.afsr.getLsbD 10 = decide (e = .bus) ∧ (d.afsr.extractLsb' 4 4).toNat = pa / 2 ^ 32 % 16 ∧
      d.afar.toNat = pa % 2 ^ 32 := by
  intro d
  have hd : d = { c with
      afsr := 0#19 ++ errorBits (some e) ++ 0#2 ++ BitVec.ofNat 4 (pa / 2 ^ 32) ++ 0#3 ++ 1#1
      afar := BitVec.ofNat 32 pa } := if_neg (by simp only [h]; simp)
  have hpa : (0#19 ++ errorBits (some e) ++ 0#2 ++ BitVec.ofNat 4 (pa / 2 ^ 32) ++ 0#3 ++ 1#1 : Word).extractLsb' 4 4 =
      BitVec.ofNat 4 (pa / 2 ^ 32) := by
    apply BitVec.eq_of_getLsbD_eq
    intro i hi
    simp only [BitVec.getLsbD_extractLsb', BitVec.getLsbD_append]
    interval_cases i <;> simp
  rw [hd]
  refine ⟨?_, ?_, ?_, ?_, ?_, ?_⟩
  · simp only [BitVec.getLsbD_append]; simp
  · simp only [BitVec.getLsbD_append]; cases e <;> rfl
  · simp only [BitVec.getLsbD_append]; cases e <;> rfl
  · simp only [BitVec.getLsbD_append]; cases e <;> rfl
  · rw [hpa]; simp
  · simp

/-- With no bus error all buffers reach memory, in their order. -/
theorem drainAll_mem {s : State} (hb : s.plat.busFault = []) : (drainAll s).mem = bufferedMem s := by
  suffices h : ∀ (l : List WriteBuffer) (s : State), s.plat.busFault = [] → s.cmu.wbuf = l →
      (l.foldl (fun t _ => drainOne t) s).mem = l.foldl (fun m b => setBytes m (memKey b.bank b.pa) b.bytes) s.mem from
    h _ s hb rfl
  intro l
  induction l with
  | nil => exact fun _ _ _ => rfl
  | cons b rest ih =>
    intro s hb hw
    have hd := drainOne_of_none hw (busError_none hb ..)
    rw [List.foldl_cons, List.foldl_cons, ih _ (by rw [hd]; exact hb) (by rw [hd]), hd]

/-- Buffered writes elsewhere leave a byte alone. -/
theorem byteAt_foldl_outside (l : List WriteBuffer) (j : Nat)
    (h : ∀ b ∈ l, j < memKey b.bank b.pa ∨ memKey b.bank b.pa + b.bytes.length ≤ j) (m : List Host.Cell) :
    byteAt (l.foldl (fun m b => setBytes m (memKey b.bank b.pa) b.bytes) m) j = byteAt m j := by
  induction l generalizing m with
  | nil => rfl
  | cons b rest ih =>
    rw [List.foldl_cons, ih (fun b' hb => h b' (List.mem_cons_of_mem _ hb)),
      byteAt_setBytes_outside _ _ _ _ (h b List.mem_cons_self)]

/-- A buffer that holds no byte of an access has its bytes elsewhere in memory. -/
theorem outside_of_not_meets {b : WriteBuffer} {bank pa n i : Nat} (hm : b.meets bank pa n = false) (hi : i < n)
    (hpa : pa + n ≤ 2 ^ 36) (hb : b.pa + b.bytes.length ≤ 2 ^ 36) :
    memKey bank pa + i < memKey b.bank b.pa ∨ memKey b.bank b.pa + b.bytes.length ≤ memKey bank pa + i := by
  unfold memKey
  rcases lt_trichotomy b.bank bank with hlt | heq | hgt
  · omega
  · have : ¬(b.pa < pa + n ∧ pa < b.pa + b.bytes.length) := by
      simpa [WriteBuffer.meets, heq] using hm
    omega
  · omega

/-- A read of memory sees what all buffered writes leave there (20_memory.md R78). -/
theorem busRead_eq {s : State} (hb : s.plat.busFault = []) {bank pa : Nat} {size : Size} (hpa : pa + size.bytes ≤ 2 ^ 36)
    (hw : ∀ b ∈ s.cmu.wbuf, b.pa + b.bytes.length ≤ 2 ^ 36) :
    (busRead s bank pa size).2 = .ok (datumAt (bufferedMem s) (memKey bank pa) size) := by
  have hplat : (settleRead s bank pa size.bytes).plat = s.plat := by rw [(accessed_settleRead s bank pa size.bytes).1]
  rw [busRead]
  simp only [busError_none (hplat ▸ hb)]
  unfold settleRead
  split
  case isTrue => rw [drainAll_mem hb]
  case isFalse h =>
    have hmeets : ∀ b ∈ s.cmu.wbuf, b.meets bank pa size.bytes = false := by
      simp only [Bool.or_eq_true, List.any_eq_true, not_or, not_exists, not_and, Bool.not_eq_true] at h
      exact h.1
    congr 1
    exact (datumAt_congr size fun i hi => byteAt_foldl_outside _ _
      (fun b hb => outside_of_not_meets (hmeets b hb) hi hpa (hw b hb)) _).symm

/-- Settles O58. -/
theorem writeBuffers : Obligations.WriteBuffers := by
  refine ⟨fun s bank pa bs hb hl h => busWrite_of_room bank pa hb hl h, fun s b rest hw => ?_,
    fun s bank pa size hb hpa hw => busRead_eq hb hpa hw⟩
  intro t k
  refine ⟨?_, fun hn => ?_, fun e he => ?_⟩
  · cases he : busError s true b.pa b.bytes.length with
    | none => simp only [t, drainOne_of_none hw he]
    | some e =>
      simp only [t, drainOne_of_error hw he]
      rw [recordAsync_frame]
  · rw [show t = _ from drainOne_of_none hw hn]
    exact ⟨rfl, rfl, fun j => byteAt_setBytes ..⟩
  · rw [show t = _ from drainOne_of_error hw he]
    refine ⟨rfl, fun h => ?_, fun h => recordAsync_fields (c := { s.cmu with wbuf := rest }) h e b.pa⟩
    rw [recordAsync_of_afo (c := { s.cmu with wbuf := rest }) h]; exact ⟨rfl, rfl⟩

/-! ## Tags -/

section
variable (s : State) (n m : Nat)

@[simp] theorem tagAt_setTag (t : Tag) : tagAt (setTag s n t) m = if m = n then t else tagAt s m := sparseGet_set ..
@[simp] theorem mptagAt_setTag (t : Tag) : mptagAt (setTag s n t) m = mptagAt s m := rfl
@[simp] theorem tagAt_setMpTag (t : MpTag) : tagAt (setMpTag s n t) m = tagAt s m := rfl
@[simp] theorem mptagAt_setMpTag (t : MpTag) : mptagAt (setMpTag s n t) m = if m = n then t else mptagAt s m := sparseGet_set ..

theorem tagAt_invalidateLine :
    tagAt (invalidateLine s n) m = if m = n then { tagAt s n with v := false } else tagAt s m := by
  unfold invalidateLine
  split
  · rw [tagAt_setMpTag, tagAt_setTag]
  · rw [tagAt_setTag]

theorem mptagAt_invalidateLine (h : is605 s = true) :
    mptagAt (invalidateLine s n) m = if m = n then { mptagAt s n with v := false } else mptagAt s m := by
  rw [invalidateLine, if_pos h, mptagAt_setMpTag]; rfl

theorem invalidateLine_mem : (invalidateLine s n).mem = s.mem := by unfold invalidateLine; split <;> rfl

theorem invalidateLine_data : (invalidateLine s n).cmu.data = s.cmu.data := by unfold invalidateLine; split <;> rfl

theorem invalidateLine_wbuf : (invalidateLine s n).cmu.wbuf = s.cmu.wbuf := by unfold invalidateLine; split <;> rfl

theorem lineBytes_length (d : List Host.Cell) (k : Nat) : (lineBytes d k).length = 32 := by simp [lineBytes]

/-- Bytes from a line stored at a key. -/
theorem byteAt_setBytes_line (d d' : List Host.Cell) (k k' : Nat) {j : Nat} (hj : j < 32) :
    byteAt (setBytes d k (lineBytes d' k')) (k + j) = byteAt d' (k' + j) := by
  rw [byteAt_setBytes, lineBytes_length, if_pos (by omega), Nat.add_sub_cancel_left]
  simp [lineBytes, hj]

end

/-! ## Snooping -/

section
variable (s : State) (x : Snoop)

theorem snoop_key : x.key = memKey 0 (x.line.toNat * 32) := by
  rw [Snoop.key, toNat_append_eq]; rfl

theorem snoopHit_iff : snoopHit s x = true ↔ (mptagAt s x.index).v = true ∧ (mptagAt s x.index).pa = x.line.extractLsb' 7 24 := by
  rw [snoopHit, Bool.and_eq_true, decide_eq_true_iff]; rfl

/-- The state after the data a snooped transaction brings to memory, before its tags change. -/
def snoopMem : State :=
  match x.kind with
  | .cr => if snoopHit s x && s.cmu.cm && (mptagAt s x.index).m && s.cmu.mr then supplyLine s x else s
  | .cri => if snoopHit s x && s.cmu.cm && (mptagAt s x.index).m then supplyLine s x else s
  | .ci => s
  | .cwi line => { s with mem := setBytes s.mem x.key line }

theorem snoopMem_frame : snoopMem s x = { s with mem := (snoopMem s x).mem } := by
  unfold snoopMem
  cases x.kind with
  | cr | cri => dsimp only; split <;> rfl
  | ci | cwi => rfl

theorem is605_snoopMem : is605 (snoopMem s x) = is605 s := by rw [snoopMem_frame]; rfl

@[simp] theorem tagAt_snoopMem (m : Nat) : tagAt (snoopMem s x) m = tagAt s m := by rw [snoopMem_frame]; rfl

@[simp] theorem mptagAt_snoopMem (m : Nat) : mptagAt (snoopMem s x) m = mptagAt s m := by rw [snoopMem_frame]; rfl

/-- A snooped transaction brings at most its own line to memory. -/
theorem byteAt_snoopMem_outside {j : Nat} (hj : j < x.key ∨ x.key + 32 ≤ j)
    (hl : ∀ line, x.kind = .cwi line → line.length = 32) : byteAt (snoopMem s x).mem j = byteAt s.mem j := by
  have hsupply : byteAt (supplyLine s x).mem j = byteAt s.mem j :=
    byteAt_setBytes_outside _ _ _ _ (by rwa [lineBytes_length])
  unfold snoopMem
  cases hk : x.kind with
  | cr | cri =>
    dsimp only
    split
    · exact hsupply
    · rfl
  | ci => rfl
  | cwi line => exact byteAt_setBytes_outside _ _ _ _ (by rwa [hl line hk])

theorem lineAt_supplyLine : lineAt (supplyLine s x) x.key fun j => byteAt s.cmu.data (32 * x.index + j) :=
  fun _ hj => byteAt_setBytes_line _ _ _ _ hj

variable {s x}

theorem snoop_of_miss (h : snoopHit s x = false) : snoop s x = snoopMem s x := by
  unfold snoop snoopMem
  cases x.kind <;> simp [h]

theorem snoop_of_hit (h : snoopHit s x = true) (hk : x.kind ≠ .cr) :
    snoop s x = invalidateLine (snoopMem s x) x.index := by
  unfold snoop snoopMem
  cases hx : x.kind with
  | cr => exact absurd hx hk
  | cri | ci | cwi => simp [h]

theorem snoop_of_cr (h : snoopHit s x = true) (hk : x.kind = .cr) (hm : s.cmu.cm = true) :
    snoop s x = setMpTag (setTag (snoopMem s x) x.index { tagAt s x.index with sh := true }) x.index
      { mptagAt s x.index with sh := true, m := (mptagAt s x.index).m && !s.cmu.mr } := by
  unfold snoop snoopMem
  simp only [hk, h, hm, if_true, Bool.true_and]
  rfl

theorem snoop_of_cr_writeThrough (hk : x.kind = .cr) (hm : s.cmu.cm = false) : snoop s x = s := by
  unfold snoop
  simp only [hk, hm]
  cases snoopHit s x <;> rfl

/-- A snooped transaction leaves the tags of every other line alone. -/
theorem tags_snoop (h5 : is605 s = true) {m : Nat} (hm : m ≠ x.index) :
    tagAt (snoop s x) m = tagAt s m ∧ mptagAt (snoop s x) m = mptagAt s m := by
  cases h : snoopHit s x with
  | false => rw [snoop_of_miss h]; exact ⟨tagAt_snoopMem .., mptagAt_snoopMem ..⟩
  | true =>
    by_cases hk : x.kind = .cr
    · cases hc : s.cmu.cm with
      | true => rw [snoop_of_cr h hk hc]; simp [hm]
      | false => rw [snoop_of_cr_writeThrough hk hc]; exact ⟨rfl, rfl⟩
    · rw [snoop_of_hit h hk, tagAt_invalidateLine, mptagAt_invalidateLine _ _ _ (by rwa [is605_snoopMem])]
      simp [hm]

/-- Memory after a snooped transaction. -/
theorem snoop_mem (hw : ¬(x.kind = .cr ∧ s.cmu.cm = false)) : (snoop s x).mem = (snoopMem s x).mem := by
  cases h : snoopHit s x with
  | false => rw [snoop_of_miss h]
  | true =>
    by_cases hk : x.kind = .cr
    · rw [snoop_of_cr h hk (by simpa [hk] using hw)]; rfl
    · rw [snoop_of_hit h hk, invalidateLine_mem]

end

/-- Settles O59. -/
theorem snooping : Obligations.Snooping := by
  intro s x h5 n p hit t k
  have hhit : hit ↔ snoopHit s x = true := (snoopHit_iff s x).symm
  have hn' : n = x.index := rfl
  have hk : k = x.key := (snoop_key x).symm
  refine ⟨fun m hm => tags_snoop h5 hm, fun hn => ?_, fun hh hcr => ?_, fun hh hcr hc => ⟨?_, ?_, fun hpm hmr => ?_⟩,
    fun hh hcri hc hpm => ?_, fun line hl hlen => ?_, fun j hj hl => ?_⟩
  · rw [hhit, Bool.not_eq_true] at hn
    rw [show t = _ from snoop_of_miss hn, snoopMem_frame]
  · rw [show t = _ from snoop_of_hit (hhit.1 hh) hcr, tagAt_invalidateLine,
      mptagAt_invalidateLine _ _ _ (by rwa [is605_snoopMem]), if_pos hn', if_pos hn']
    exact ⟨rfl, rfl⟩
  · rw [show t = _ from snoop_of_cr (hhit.1 hh) hcr hc, tagAt_setMpTag, tagAt_setTag, if_pos hn']; rfl
  · rw [show t = _ from snoop_of_cr (hhit.1 hh) hcr hc, mptagAt_setMpTag, if_pos hn']; rfl
  · have hmem : t.mem = (supplyLine s x).mem := by
      rw [show t.mem = _ from snoop_mem (by simp [hc]), snoopMem, hcr]
      simp [hhit.1 hh, hc, hmr, show (mptagAt s x.index).m = true from hpm]
    intro j hj
    rw [hk]
    exact (congrArg (byteAt · _) hmem).trans (lineAt_supplyLine s x j hj)
  · have hmem : t.mem = (supplyLine s x).mem := by
      rw [show t.mem = _ from snoop_mem (by simp [hc]), snoopMem, hcri]
      simp [hhit.1 hh, hc, show (mptagAt s x.index).m = true from hpm]
    intro j hj
    rw [hk]
    exact (congrArg (byteAt · _) hmem).trans (lineAt_supplyLine s x j hj)
  · have hmem : t.mem = setBytes s.mem x.key line := by
      rw [show t.mem = _ from snoop_mem (by simp [hl]), snoopMem, hl]
    intro j hj
    rw [hk]
    refine (congrArg (byteAt · _) hmem).trans ?_
    simp only
    rw [byteAt_setBytes, if_pos (by omega), Nat.add_sub_cancel_left]
  · rw [hk] at hj
    by_cases hw : x.kind = .cr ∧ s.cmu.cm = false
    · rw [show t = _ from snoop_of_cr_writeThrough hw.1 hw.2]
    · exact (congrArg (byteAt · j) (snoop_mem hw)).trans (byteAt_snoopMem_outside s x hj hl)

end Sys2Proof.Claims
end

section
/-! PROOF. The cache of a CY7C604: hits, misses and stores (21_mmu_cache.md R621 to R625). -/
namespace Sys2Proof.Claims
open Sys2Proof.Machine

theorem lineIndex_eq (va : Word) : lineIndex va = va.toNat / 32 % 2048 := by
  simp [lineIndex, Nat.shiftRight_eq_div_pow]

theorem dataKey_eq (va : Word) : dataKey va = va.toNat % 2 ^ 16 := by simp [dataKey]

theorem page_address_eq (page : Page) (va : Word) : page.address va = page.ppn.toNat * 2 ^ 12 + va.toNat % 2 ^ 12 := by
  rw [Page.address, toNat_append_eq]; simp

theorem lineAddress_eq (page : Page) (va : Word) : lineAddress page.ppn va = page.address va / 32 * 32 := by
  rw [lineAddress, page_address_eq, toNat_append_eq, toNat_append_eq]
  simp [Nat.shiftRight_eq_div_pow]; omega

section
variable {s : State} {va : Word} {sup : Bool} {page : Page} {size : Size}

/-- A load that hits gives the cache's datum (R622). -/
theorem cachedRead_of_hit (h : cacheHit s va sup = true) :
    cachedRead s va sup page size = (s, .ok (datumAt s.cmu.data (dataKey va) size)) := if_pos h

theorem not_hit_of_invalid (h : (tagAt s (lineIndex va)).v = false) : cacheHit s va sup = false := by
  simp [cacheHit, Tag.hit, h]

/-- A line loaded for an access holds it. -/
theorem cacheHit_loadTags (h5 : is605 s = false) : cacheHit (loadTags s va page) va sup = true := by
  simp [cacheHit, loadTags, h5, Tag.hit]
  left; rfl

theorem loadTags_frame (h5 : is605 s = false) : loadTags s va page = { s with cmu := { s.cmu with
    tags := (loadTags s va page).cmu.tags } } := by
  simp [loadTags, h5]; rfl

/-- The state after a miss in an invalid line (R622, R623). -/
def lineLoaded (s : State) (va : Word) (page : Page) : State :=
  let bytes := lineBytes s.mem (memKey 0 (lineAddress page.ppn va))
  loadTags (withData (withCmu s { s.cmu with rbuf := some bytes })
    (setBytes s.cmu.data (32 * lineIndex va) bytes)) va page

theorem serveMiss_invalid (hb : s.plat.busFault = []) (hw : s.cmu.wbuf = []) (hv : (tagAt s (lineIndex va)).v = false) :
    serveMiss s va page = (lineLoaded s va page, .ok true) := by
  have hlocked : lineLocked s va = false := by simp [lineLocked, hv]
  have hload : loadLine s va page none = (lineLoaded s va page, none) := by
    simp only [loadLine, drainAll_of_nil hw, busError_none hb]
    generalize lineModified _ _ = modified
    cases modified <;> rfl
  simp only [serveMiss, hlocked, occupantPage, hv, Bool.not_false, if_true, hload]
  rfl

theorem lineLoaded_frame (h5 : is605 s = false) : lineLoaded s va page = { s with cmu := { s.cmu with
    rbuf := (lineLoaded s va page).cmu.rbuf, tags := (lineLoaded s va page).cmu.tags,
    data := setBytes s.cmu.data (32 * lineIndex va) (lineBytes s.mem (memKey 0 (lineAddress page.ppn va))) } } := by
  simp only [lineLoaded]
  rw [loadTags_frame]
  · rfl
  · exact h5

/-- The line loaded holds memory's 32 bytes (R622). -/
theorem byteAt_lineLoaded (h5 : is605 s = false) {j : Nat} (hj : j < 32) :
    byteAt (lineLoaded s va page).cmu.data (32 * lineIndex va + j) =
      byteAt s.mem (memKey 0 (page.address va / 32 * 32) + j) := by
  rw [lineLoaded_frame h5, ← lineAddress_eq]
  exact byteAt_setBytes_line _ _ _ _ hj

/-- The parts of an address: its line and the place in it. -/
theorem dataKey_split (va : Word) : dataKey va = 32 * lineIndex va + va.toNat % 32 := by
  rw [dataKey_eq, lineIndex_eq]; omega

theorem memKey_split (va : Word) (page : Page) :
    memKey 0 (page.address va) = memKey 0 (page.address va / 32 * 32) + va.toNat % 32 := by
  rw [page_address_eq, memKey, memKey]; omega

/-- An aligned access lies within one line. -/
theorem aligned_within_line (ha : misaligned va size = false) {i : Nat} (hi : i < size.bytes) : va.toNat % 32 + i < 32 := by
  rw [misaligned_eq, decide_eq_false_iff_not, not_not] at ha
  cases size <;> simp only [Size.bytes] at ha hi <;> omega

/-- A load that misses in an invalid line gives memory's datum (R622). -/
theorem cachedRead_of_invalid (h5 : is605 s = false) (hb : s.plat.busFault = []) (hw : s.cmu.wbuf = [])
    (hv : (tagAt s (lineIndex va)).v = false) (ha : misaligned va size = false) :
    cachedRead s va sup page size = (lineLoaded s va page, .ok (datumAt s.mem (memKey 0 (page.address va)) size)) := by
  have hdatum : datumAt (lineLoaded s va page).cmu.data (dataKey va) size = datumAt s.mem (memKey 0 (page.address va)) size := by
    refine datumAt_congr size fun i hi => ?_
    rw [dataKey_split, memKey_split, Nat.add_assoc, Nat.add_assoc, byteAt_lineLoaded h5 (aligned_within_line ha hi)]
  rw [cachedRead, if_neg (by simp [not_hit_of_invalid hv]), serveMiss_invalid hb hw hv]
  simp only [hdatum]

theorem lineModified_setTag (h5 : is605 s = false) (n : Nat) (hm : s.cmu.cm = true) (hv : (tagAt s n).v = true) :
    lineModified (setTag s n { tagAt s n with m := true }) n = true := by
  have hm' : (setTag s n { tagAt s n with m := true }).cmu.cm = true := hm
  have h5' : is605 (setTag s n { tagAt s n with m := true }) = false := h5
  rw [lineModified, hm', h5', tagAt_setTag, if_pos rfl, hv]; rfl

variable (v : DWord)

/-- A datum stored with the write buffers empty takes one of them. -/
theorem putMemory_of_nil (hw : s.cmu.wbuf = []) (pa : Nat) : putMemory s (some (0, pa)) (datumBytes v size) =
    { s with cmu := { s.cmu with wbuf := [{ bank := 0, pa := pa, bytes := datumBytes v size }] } } := by
  rw [putMemory, busWrite_of_room 0 pa (by rw [datumBytes_length]; exact size_bytes_le size) (by simp [hw]) (by simp [hw])]
  simp [hw]

/-- A write-through store that hits goes to the cache and to memory (R622). -/
theorem cachedWrite_through_hit (hm : s.cmu.cm = false) (h : cacheHit s va sup = true) :
    cachedWrite s va sup page size v = (putMemory (withData s (setDatum s.cmu.data (dataKey va) size v))
      (some (0, page.address va)) (datumBytes v size), none) := by
  simp only [cachedWrite, cachedTarget, hm, h]
  rfl

/-- A write-through store that misses goes to memory, and its line becomes invalid (R622). -/
theorem cachedWrite_through_miss (hm : s.cmu.cm = false) (h : cacheHit s va sup = false) :
    cachedWrite s va sup page size v = (putMemory (invalidateLine s (lineIndex va))
      (some (0, page.address va)) (datumBytes v size), none) := by
  simp only [cachedWrite, cachedTarget, hm, h]
  rfl

/-- A copy-back store that hits goes to the cache alone (R623). -/
theorem cachedWrite_back_hit (hm : s.cmu.cm = true) (h : cacheHit s va sup = true) :
    cachedWrite s va sup page size v =
      (markModified (withData s (setDatum s.cmu.data (dataKey va) size v)) (lineIndex va), none) := by
  simp only [cachedWrite, cachedTarget, hm, h]
  rfl

end

/-- Settles O57. -/
theorem cacheAccesses : Obligations.CacheAccesses := by
  intro s va sup page size v h5 hb hw ha n key pa stored
  have hn : n = lineIndex va := (lineIndex_eq va).symm
  have hkey : key = dataKey va := (dataKey_eq va).symm
  have stored_withData {t : State} (ht : t.cmu.data = setDatum s.cmu.data (dataKey va) size v) : stored t := fun j => by
    rw [ht, byteAt_setDatum, hkey]
  rw [hn, hkey]
  refine ⟨cachedRead_of_hit, fun hv => ?_, fun hm => ?_, fun hm hh => ?_⟩
  · refine ⟨_, cachedRead_of_invalid h5 hb hw hv ha, ?_, ?_, ?_, fun j hj => (byteAt_lineLoaded h5 hj).symm⟩
    · exact cacheHit_loadTags (s := withData _ _) h5
    · rw [lineLoaded_frame h5]
    · rw [lineLoaded_frame h5]; exact hw
  · cases hh : cacheHit s va sup with
    | true =>
      rw [cachedWrite_through_hit v hm hh, putMemory_of_nil]
      · exact ⟨_, rfl, rfl, rfl, fun _ => ⟨stored_withData rfl, rfl⟩, fun h => absurd h (by simp)⟩
      · exact hw
    | false =>
      rw [cachedWrite_through_miss v hm hh, putMemory_of_nil v ((invalidateLine_wbuf ..).trans hw)]
      refine ⟨_, rfl, invalidateLine_mem .., rfl, fun h => absurd h (by simp), fun _ => ⟨invalidateLine_data .., ?_⟩⟩
      refine (congrArg Tag.v (tagAt_invalidateLine s (lineIndex va) (lineIndex va))).trans ?_
      rw [if_pos rfl]
  · have hv : (tagAt s (lineIndex va)).v = true := by
      simp only [cacheHit, Tag.hit, Bool.and_eq_true] at hh
      exact hh.1.1
    have h5' : is605 (withData s (setDatum s.cmu.data (dataKey va) size v)) = false := h5
    refine ⟨_, cachedWrite_back_hit v hm hh, ?_, ?_, ?_, ?_⟩
    all_goals rw [markModified, if_neg (by simp [h5'])]
    · rfl
    · exact hw
    · exact stored_withData rfl
    · exact lineModified_setTag h5' _ hm hv

end Sys2Proof.Claims
end

section
/-! PROOF. A load, store, atomic load-store or fetch whose translation fails (22_cmu_registers_faults_reset.md R660 to R664). -/
namespace Sys2Proof.Claims
open Sys2Proof.Machine

/-- The access type of an access in the standard address spaces: its base, and 1 more in supervisor mode (R606). -/
def accessKind (s : State) (base : Nat) : BitVec 3 := BitVec.ofNat 3 (base + if s.psr.s then 1 else 0)

theorem dataAsi_cases {s : State} (h : Settled s) : dataAsi s = if s.psr.s then 0x0B else 0x0A := by
  rw [dataAsi, usePsr_of_none h.1]

theorem instrAsi_cases {s : State} (h : Settled s) : instrAsi s = if s.psr.s then 0x09 else 0x08 := by
  rw [instrAsi, usePsr_of_none h.1]

/-- What the address spaces of data accesses and of fetches say: supervisor or user, and the access type (R606, R663). -/
theorem dataAsi_types {s : State} (h : Settled s) (t : State) : asiSupervisor (dataAsi s) = s.psr.s ∧
    accessType (dataAsi s) false = accessKind s 0 ∧ accessType (dataAsi s) true = accessKind s 4 ∧
    ∀ write, recordedType t (dataAsi s) write = accessType (dataAsi s) write := by
  rw [dataAsi_cases h, accessKind, accessKind]
  cases s.psr.s <;> exact ⟨rfl, rfl, rfl, fun _ => rfl⟩

theorem instrAsi_types {s : State} (h : Settled s) (t : State) : asiSupervisor (instrAsi s) = s.psr.s ∧
    accessType (instrAsi s) false = accessKind s 2 ∧ recordedType t (instrAsi s) false = accessType (instrAsi s) false := by
  rw [instrAsi_cases h, accessKind]
  cases s.psr.s <;> exact ⟨rfl, rfl, rfl⟩

theorem suppressed_of_nf {s : State} (h : s.cmu.nf = false) (asi : Asi) : suppressed s asi = false := by
  simp [suppressed, h]

section
variable {s s1 : State} {asi : Asi} {va : Word} {f : SyncFault} (hc : hasCmu s = true) (hnf : s.cmu.nf = false)
  (hspace : cmuSpace s asi va = .translated)
include hc hnf hspace

omit hc in
theorem cmuRead_of_failed
    (ht : Machine.translate s va s.cmu.context (asiSupervisor asi) (.access (accessType asi false)) = (s1, .error f)) (size : Size) :
    cmuRead s asi va size = (recordFault s1 f asi false va, none) := by
  simp only [cmuRead, hspace, ht, faulted, suppressed_of_nf hnf]
  rfl

/-- Every read at an address whose translation for a read fails ends in a memory exception, the fault on record. -/
theorem readMem_of_failed
    (ht : Machine.translate s va s.cmu.context (asiSupervisor asi) (.access (accessType asi false)) = (s1, .error f)) (size : Size) :
    readMem s asi va size = (recordFault s1 f asi false va, none) := by
  have hone (size : Size) : readOne s asi va size = (recordFault s1 f asi false va, none) := by
    rw [readOne, if_pos hc, cmuRead_of_failed hnf hspace ht]
    rfl
  cases size
  case double =>
    have hword : wordSpace s asi va = false := by simp [wordSpace, hspace]
    simp only [readMem, hword, readPair, hone]
    rfl
  all_goals exact hone _

variable (ht : Machine.translate s va s.cmu.context (asiSupervisor asi) (.access (accessType asi true)) = (s1, .error f))
include ht

/-- Every write at an address whose translation for a write fails ends in a memory exception. -/
theorem writeMem_of_failed (size : Size) (v : DWord) :
    writeMem s asi va size v = (recordFault s1 f asi true va, false) := by
  have hopen (size : Size) : openStore s asi va size = (recordFault s1 f asi true va, none) := by
    simp only [openStore, hspace, ht, faulted, suppressed_of_nf hnf]
    rfl
  have hstore : cmuStore s asi va size v = (recordFault s1 f asi true va, false) := by
    simp only [cmuStore, hspace, hopen]
  have hpair : cmuStorePair s asi va v = (recordFault s1 f asi true va, false) := by
    simp only [cmuStorePair, hopen]
  rw [writeMem, if_pos hc, hpair, hstore, ite_self]

theorem exchangeMem_of_failed (size : Size) (v : DWord) :
    exchangeMem s asi va size v = (recordFault s1 f asi true va, none) := by
  rw [exchangeMem, if_pos hc]
  simp only [cmuExchange, hspace, ht, faulted, suppressed_of_nf hnf]
  rfl

end

/-- An access whose cycles meet a memory exception takes data_access_exception. -/
theorem Access.of_refused {s u : State} {asi : Asi} {va : Word} {size : Size} {reads writes : Bool} {r : Result} (hu : Settled u)
    (a : Access s asi va size reads writes r) (ha : misaligned va size = false)
    (hr : writes = false → readMem s asi va size = (u, none))
    (hw : writes = true → ∀ v, writeMem s asi va size v = (u, false) ∧ exchangeMem s asi va size v = (u, none)) :
    r = .next (trapped u 9) := by
  have ht : raise u ttDataAccess = trapped u 9 := raise_eq hu 9
  have hn : ¬misaligned va size = true := by simp [ha]
  cases a with
  | load k => rw [loadWith, if_neg hn, hr rfl]; exact congrArg _ ht
  | store v k => rw [storeWith, if_neg hn, (hw rfl v).1]; exact congrArg _ ht
  | exchange v rd => rw [exchangeWith, if_neg hn, (hw rfl v).2]; exact congrArg _ ht

/-- Settles O52. -/
theorem translationFaultTraps : Obligations.TranslationFaultTraps := by
  intro s s1 rd rs1 o f h hc hme hnf hft va kind
  obtain ⟨hsup, hload, hstore, hrec⟩ := dataAsi_types h s1
  have hasi : dataAsi s ∈ ([0x0A, 0x0B] : List Asi) := by rw [dataAsi_cases h]; cases s.psr.s <;> simp
  have recorded (at' : BitVec 3) (a : Word) : Recorded s1 (recordSync s1 f at' a) f at' a := recorded_of_none f at' s1 a hft
  have settled1 {a : Word} {at' : BitVec 3}
      (ht : Machine.translate s a s.cmu.context s.psr.s (.access at') = (s1, .error f)) : Settled s1 :=
    settled_of_accessed h (by simpa [ht] using accessed_translate s a s.cmu.context s.psr.s (.access at'))
  refine ⟨fun ha ht p hp hm => ?_, fun ha ht p hp hm => ?_, fun ha hbm hb ht => ?_⟩
  · have hspace := cmuSpace_translated ha hasi hme
    have hs1 := settled1 ht
    rw [← hsup, show kind 0 = _ from hload.symm] at ht
    obtain ⟨size, hsize, a⟩ := access_loads h rd rs1 o hp
    refine ⟨recordSync s1 f (kind 0) va, a.of_refused ?_ (aligned_of_mod size (hsize ▸ hm)) (fun _ => ?_) (by simp), recorded _ _⟩
    · exact settled_of_accessed hs1 (accessed_recordSync ..)
    · rw [readMem_of_failed hc hnf hspace ht, recordFault, hrec, hload]; rfl
  · have hspace := cmuSpace_translated ha hasi hme
    have hs1 := settled1 ht
    rw [← hsup, show kind 4 = _ from hstore.symm] at ht
    obtain ⟨size, reads, hsize, a⟩ := access_stores h rd rs1 o hp
    refine ⟨recordSync s1 f (kind 4) va, a.of_refused ?_ (aligned_of_mod size (hsize ▸ hm)) (by simp) (fun _ v => ?_), recorded _ _⟩
    · exact settled_of_accessed hs1 (accessed_recordSync ..)
    · rw [writeMem_of_failed hc hnf hspace ht, exchangeMem_of_failed hc hnf hspace ht, recordFault, hrec, hstore]
      exact ⟨rfl, rfl⟩
  · obtain ⟨hsup, hfetch, hrec⟩ := instrAsi_types h s1
    have hasi : instrAsi s ∈ ([0x08, 0x09] : List Asi) := by rw [instrAsi_cases h]; cases s.psr.s <;> simp
    have hspace := cmuSpace_fetch ha hasi hbm hme
    have hs1 := settled1 ht
    rw [← hsup, show kind 2 = _ from hfetch.symm] at ht
    have hf : fetch s = (refresh (recordSync s1 f (kind 2) s.pc), none) := by
      rw [fetch, if_pos hc, cmuRead_of_failed hnf hspace ht, recordFault, hrec, hfetch]
      rfl
    refine ⟨recordSync s1 f (kind 2) s.pc, ?_, recorded _ _⟩
    have hu : Settled (refresh (recordSync s1 f (kind 2) s.pc)) :=
      settled_of_accessed (settled_of_accessed hs1 (accessed_recordSync ..)) (accessed_refresh _)
    rw [step_of_instruction hb, instructionStep, hf]
    simp only [raise_eq hu]; rfl

end Sys2Proof.Claims
end

section
/-! PROOF. The floating-point formats: the numbers of a format, the gap between two neighbours, and the choice a rounding makes
(44_floating_point.md R285 to R288). -/
namespace Sys2Proof.Claims
open Sys2Proof.Machine

/-- A format with room for normalized numbers. -/
structure Usable (f : FpFormat) : Prop where
  frac : 1 ≤ f.fbits
  exp : 2 ≤ f.ebits

theorem usable_single : Usable .single := ⟨by decide, by decide⟩
theorem usable_double : Usable .double := ⟨by decide, by decide⟩

theorem emax_eq {f : FpFormat} (u : Usable f) : f.emax = 2 * f.bias + 1 := by
  have h : 2 ^ f.ebits = 2 * 2 ^ (f.ebits - 1) := by rw [← pow_succ', Nat.sub_add_cancel (by have := u.exp; omega)]
  have := Nat.one_le_two_pow (n := f.ebits - 1)
  unfold FpFormat.emax FpFormat.bias; omega

theorem emax_lt (f : FpFormat) : f.emax < 2 ^ f.ebits := by
  have := Nat.one_le_two_pow (n := f.ebits)
  unfold FpFormat.emax; omega

/-! ## Packing -/

theorem mul_add_div_of_lt {a b c : Nat} (h : c < b) : (a * b + c) / b = a := by
  rw [Nat.add_comm, Nat.add_mul_div_right _ _ (by omega), Nat.div_eq_of_lt h, Nat.zero_add]

theorem mul_add_mod_of_lt {a b c : Nat} (h : c < b) : (a * b + c) % b = c := by
  rw [Nat.mul_add_mod_self_right, Nat.mod_eq_of_lt h]

section
variable (f : FpFormat) (s : Bool) {e m : Nat} (he : e < 2 ^ f.ebits) (hm : m < 2 ^ f.fbits)
include hm

theorem frac_pack : f.frac (f.pack s e m) = m := mul_add_mod_of_lt hm

include he

theorem exp_pack : f.exp (f.pack s e m) = e := by
  rw [FpFormat.exp, FpFormat.pack, mul_add_div_of_lt hm, mul_add_mod_of_lt he]

theorem sign_pack : f.sign (f.pack s e m) = s := by
  rw [FpFormat.sign, FpFormat.pack, Nat.add_comm f.ebits, pow_add, ← Nat.div_div_eq_div_mul, mul_add_div_of_lt hm,
    mul_add_div_of_lt he]
  cases s <;> rfl

theorem pack_lt : f.pack s e m < 2 ^ (1 + f.ebits + f.fbits) := by
  have h1 : (if s then 1 else 0) * 2 ^ f.ebits + e < 2 * 2 ^ f.ebits := by cases s <;> simp <;> omega
  rw [FpFormat.pack, pow_add, pow_add, pow_one]
  nlinarith [Nat.mul_le_mul_right (2 ^ f.fbits) (Nat.succ_le_of_lt h1)]

end

/-! ## Signs and numbers -/

/-- The sign as a factor. -/
def sgn (s : Bool) : ℝ := if s then -1 else 1

theorem sgn_mul_self (s : Bool) : sgn s * sgn s = 1 := by cases s <;> norm_num [sgn]

theorem abs_sgn (s : Bool) : |sgn s| = 1 := by cases s <;> norm_num [sgn]

theorem sgn_xor (s t : Bool) : sgn (s ^^ t) = sgn s * sgn t := by cases s <;> cases t <;> norm_num [sgn]

theorem sgn_not (s : Bool) : sgn (!s) = -sgn s := by cases s <;> norm_num [sgn]

/-- The real number a pattern stands for. -/
noncomputable def realOf (f : FpFormat) (x : Nat) : ℝ := (numberOf f x : ℝ)

section
variable (f : FpFormat) (x : Nat)

theorem realOf_of_exp_zero (h : f.exp x = 0) : realOf f x = 0 := by simp [realOf, numberOf, h]

theorem realOf_of_exp (h : f.exp x ≠ 0) : realOf f x =
    sgn (f.sign x) * ((2 ^ f.fbits + f.frac x : Nat) * (2 : ℝ) ^ ((f.exp x : ℤ) - f.bias - f.fbits)) := by
  simp only [realOf, numberOf, if_neg h, sgn]
  split <;> push_cast <;> ring

theorem realOf_pack (s : Bool) {e m : Nat} (he : e < 2 ^ f.ebits) (hm : m < 2 ^ f.fbits) (h0 : e ≠ 0) :
    realOf f (f.pack s e m) = sgn s * ((2 ^ f.fbits + m : Nat) * (2 : ℝ) ^ ((e : ℤ) - f.bias - f.fbits)) := by
  rw [realOf_of_exp _ _ (by rwa [exp_pack f s he hm]), exp_pack f s he hm, sign_pack f s he hm, frac_pack f s hm]

theorem number_pack (s : Bool) {e m : Nat} (he : e < f.emax) (hm : m < 2 ^ f.fbits) (h0 : e ≠ 0) :
    Number f (f.pack s e m) := by
  have he' := he.trans (emax_lt f)
  rw [Number, exp_pack f s he' hm]
  exact ⟨he.ne, fun h => absurd h h0⟩

end

/-! ## Neighbours -/

/-- Between `q` and `q + 1` units lies no number of a format, where `q` has at least the format's precision. -/
theorem number_gap {f : FpFormat} (y : Nat) {q : Nat} (hq : 2 ^ f.fbits ≤ q) (t : ℤ) :
    |realOf f y| ≤ q * (2 : ℝ) ^ t ∨ (q + 1 : ℝ) * 2 ^ t ≤ |realOf f y| := by
  by_cases h0 : f.exp y = 0
  · left
    rw [realOf_of_exp_zero f y h0, abs_zero]
    positivity
  · rw [realOf_of_exp f y h0, abs_mul, abs_sgn, one_mul, abs_of_nonneg (by positivity)]
    generalize (f.exp y : ℤ) - f.bias - f.fbits = k
    have hM : 2 ^ f.fbits + f.frac y < 2 ^ (f.fbits + 1) := by
      have : f.frac y < 2 ^ f.fbits := Nat.mod_lt _ (by positivity)
      rw [pow_succ]; omega
    generalize 2 ^ f.fbits + f.frac y = M at hM
    rcases le_or_gt t k with h | h
    · obtain ⟨d, rfl⟩ := Int.le.dest h
      have hmul : (M : ℝ) * 2 ^ (t + (d : ℤ)) = ((M * 2 ^ d : Nat) : ℝ) * 2 ^ t := by
        rw [zpow_add₀ (by norm_num), zpow_natCast]; push_cast; ring
      rw [hmul]
      rcases Nat.lt_or_ge q (M * 2 ^ d) with hlt | hge
      · right
        exact mul_le_mul_of_nonneg_right (by exact_mod_cast hlt) (by positivity)
      · left
        exact mul_le_mul_of_nonneg_right (by exact_mod_cast hge) (by positivity)
    · left
      calc (M : ℝ) * 2 ^ k ≤ 2 ^ (f.fbits + 1) * 2 ^ (t - 1) := by
            refine mul_le_mul (by exact_mod_cast hM.le) (zpow_le_zpow_right₀ (by norm_num) (by omega)) (by positivity)
              (by positivity)
        _ = 2 ^ f.fbits * 2 ^ t := by rw [pow_succ, zpow_sub_one₀ (by norm_num)]; ring
        _ ≤ q * 2 ^ t := mul_le_mul_of_nonneg_right (by exact_mod_cast hq) (by positivity)

/-- The real number `v` of sign `s` and magnitude `μ` lies at `L` or between `L` and `H`, between which the format has no number. -/
structure Between (f : FpFormat) (s : Bool) (v μ L H : ℝ) : Prop where
  value : v = sgn s * μ
  nonneg : 0 ≤ L
  low : L ≤ μ
  high : μ < H
  gap : ∀ y, |realOf f y| ≤ L ∨ H ≤ |realOf f y|

section
variable {f : FpFormat} {s : Bool} {v μ L H c : ℝ} (b : Between f s v μ L H) {x : Nat} (hx : realOf f x = sgn s * c)
include b

/-- Distances, along the direction of the sign. -/
theorem Between.dist (w : ℝ) : |w - v| = |sgn s * w - μ| := by
  have h : w - v = sgn s * (sgn s * w - μ) := by rw [b.value, mul_sub, ← mul_assoc, sgn_mul_self, one_mul]
  rw [h, abs_mul, abs_sgn, one_mul]

/-- The gap, along the direction of the sign. -/
theorem Between.gap_signed (y : Nat) : sgn s * realOf f y ≤ L ∨ H ≤ sgn s * realOf f y := by
  have habs : |sgn s * realOf f y| = |realOf f y| := by rw [abs_mul, abs_sgn, one_mul]
  have hg := b.gap y
  have hL := b.nonneg
  rw [← habs] at hg
  rcases abs_cases (sgn s * realOf f y) with ⟨h, -⟩ | ⟨h, hneg⟩
  · rwa [h] at hg
  · left; linarith

theorem Between.gap_real (y : Nat) : realOf f y ≤ -H ∨ (-L ≤ realOf f y ∧ realOf f y ≤ L) ∨ H ≤ realOf f y := by
  rcases b.gap y with h | h
  · exact .inr (.inl (abs_le.1 h))
  · rcases le_abs.1 h with h | h
    · exact .inr (.inr h)
    · left; linarith

include hx

/-- The neighbour that is nearest to `v`, or of the two nearest the even one, is nearest of all numbers (R288). -/
theorem Between.nearest (hl : |c - μ| < |L - μ| ∨ |c - μ| = |L - μ| ∧ (L = c ∨ x % 2 = 0))
    (hh : |c - μ| < |H - μ| ∨ |c - μ| = |H - μ| ∧ (H = c ∨ x % 2 = 0)) (y : Nat) :
    |realOf f x - v| < |realOf f y - v| ∨
      (|realOf f x - v| = |realOf f y - v| ∧ (realOf f y = realOf f x ∨ x % 2 = 0)) := by
  have hc : sgn s * realOf f x = c := by rw [hx, ← mul_assoc, sgn_mul_self, one_mul]
  have hy : sgn s * (sgn s * realOf f y) = realOf f y := by rw [← mul_assoc, sgn_mul_self, one_mul]
  have hlow := b.low
  have hhigh := b.high
  rw [b.dist, b.dist, hc]
  rw [abs_of_nonpos (show L - μ ≤ 0 by linarith)] at hl
  rw [abs_of_nonneg (show 0 ≤ H - μ by linarith)] at hh
  rcases b.gap_signed y with hw | hw
  · rw [abs_of_nonpos (show sgn s * realOf f y - μ ≤ 0 by linarith)]
    rcases hw.lt_or_eq with hlt | heq
    · left; rcases hl with h | h <;> linarith [h]
    · rw [heq] at hy ⊢
      refine hl.imp id fun ⟨h1, h2⟩ => ⟨h1, h2.imp (fun h => ?_) id⟩
      rw [hx, ← hy, h]
  · rw [abs_of_nonneg (show 0 ≤ sgn s * realOf f y - μ by linarith)]
    rcases hw.lt_or_eq with hlt | heq
    · left; rcases hh with h | h <;> linarith [h]
    · rw [← heq] at hy ⊢
      refine hh.imp id fun ⟨h1, h2⟩ => ⟨h1, h2.imp (fun h => ?_) id⟩
      rw [hx, ← hy, h]

/-- The lower neighbour is `v` rounded toward zero (R288). -/
theorem Between.toward_zero (hc : c = L) :
    |realOf f x| ≤ |v| ∧ 0 ≤ realOf f x * v ∧ ∀ y, |realOf f y| ≤ |v| → |realOf f y| ≤ |realOf f x| := by
  have hlow := b.low
  have hnn := b.nonneg
  have habs : |realOf f x| = L := by rw [hx, hc, abs_mul, abs_sgn, one_mul, abs_of_nonneg hnn]
  have hv : |v| = μ := by rw [b.value, abs_mul, abs_sgn, one_mul, abs_of_nonneg (by linarith)]
  rw [habs, hv]
  refine ⟨hlow, ?_, fun y hy => ?_⟩
  · rw [hx, hc, b.value, mul_mul_mul_comm, sgn_mul_self, one_mul]
    exact mul_nonneg hnn (by linarith)
  · rcases b.gap y with h | h
    · exact h
    · linarith [b.high]

/-- The neighbour above `v`, or `v` itself, is `v` rounded toward plus infinity (R288). -/
theorem Between.toward_plus (hc : c = if L < μ ∧ s = false then H else L) :
    v ≤ realOf f x ∧ ∀ y, v ≤ realOf f y → realOf f x ≤ realOf f y := by
  have hlow := b.low
  have hhigh := b.high
  have hnn := b.nonneg
  have hv := b.value
  have hgap := b.gap_real
  rw [hx, hc]
  cases s
  case false =>
    simp only [sgn, Bool.false_eq_true, if_false, one_mul, and_true] at hv ⊢
    split
    case isTrue h =>
      refine ⟨by linarith, fun y hy => ?_⟩
      rcases hgap y with h | ⟨-, h⟩ | h <;> linarith
    case isFalse h => exact ⟨by linarith, fun y hy => by linarith⟩
  case true =>
    simp only [sgn, if_true, Bool.true_eq_false, and_false, if_false] at hv ⊢
    refine ⟨by linarith, fun y hy => ?_⟩
    rcases hgap y with h | ⟨h, -⟩ | h <;> linarith

/-- The neighbour below `v`, or `v` itself, is `v` rounded toward minus infinity (R288). -/
theorem Between.toward_minus (hc : c = if L < μ ∧ s = true then H else L) :
    realOf f x ≤ v ∧ ∀ y, realOf f y ≤ v → realOf f y ≤ realOf f x := by
  have hlow := b.low
  have hhigh := b.high
  have hnn := b.nonneg
  have hv := b.value
  have hgap := b.gap_real
  rw [hx, hc]
  cases s
  case true =>
    simp only [sgn, if_true, and_true] at hv ⊢
    split
    case isTrue h =>
      refine ⟨by linarith, fun y hy => ?_⟩
      rcases hgap y with h | ⟨h, -⟩ | h <;> linarith
    case isFalse h => exact ⟨by linarith, fun y hy => by linarith⟩
  case false =>
    simp only [sgn, Bool.false_eq_true, if_false, one_mul, and_false] at hv ⊢
    refine ⟨by linarith, fun y hy => ?_⟩
    rcases hgap y with h | ⟨-, h⟩ | h <;> linarith

end

end Sys2Proof.Claims
end

section
/-! PROOF. The rounding of an exact result to a format is correct over the real numbers (44_floating_point.md R287, R288, R304). -/
namespace Sys2Proof.Claims
open Sys2Proof.Machine

/-- The magnitude `μ` split for a format: `q` of the units the format has there, a remainder of `r` of 2^k parts of one, and less than
one part more where `sticky` says so. -/
structure Split (f : FpFormat) (q r k : Nat) (e : ℤ) (sticky : Bool) (μ : ℝ) : Prop where
  lowq : 2 ^ f.fbits ≤ q
  highq : q < 2 ^ (f.fbits + 1)
  rem : r < 2 ^ k
  low : ((q * 2 ^ k + r : Nat) : ℝ) * 2 ^ e ≤ μ
  high : μ < ((q * 2 ^ k + r + 1 : Nat) : ℝ) * 2 ^ e
  sticky_iff : sticky = true ↔ ((q * 2 ^ k + r : Nat) : ℝ) * 2 ^ e < μ
  whole : k = 0 → sticky = false

/-- Whether the rounding of a split magnitude takes the upper neighbour. -/
def takesUpper (rd : BitVec 2) (s : Bool) (q r k : Nat) (sticky : Bool) : Bool :=
  if k = 0 then false else roundUp rd s q r (2 ^ (k - 1)) sticky

section
variable {f : FpFormat} {q r k : Nat} {e : ℤ} {sticky : Bool} {μ : ℝ} (p : Split f q r k e sticky μ)
include p

omit p in
theorem zpow_unit (e : ℤ) (k : Nat) : (2 : ℝ) ^ (e + k) = 2 ^ k * 2 ^ e := by
  rw [zpow_add₀ (by norm_num), zpow_natCast, mul_comm]

theorem Split.lower : q * (2 : ℝ) ^ (e + k) ≤ μ := by
  refine le_trans ?_ p.low
  rw [zpow_unit, ← mul_assoc]
  refine mul_le_mul_of_nonneg_right ?_ (by positivity)
  push_cast
  linarith [Nat.cast_nonneg (α := ℝ) r]

theorem Split.upper : μ < (q + 1) * (2 : ℝ) ^ (e + k) := by
  refine lt_of_lt_of_le p.high ?_
  rw [zpow_unit, ← mul_assoc]
  refine mul_le_mul_of_nonneg_right ?_ (by positivity)
  have h : q * 2 ^ k + r + 1 ≤ (q + 1) * 2 ^ k := by have := p.rem; rw [Nat.succ_mul]; omega
  exact_mod_cast h

/-- The magnitude is a number of the format exactly where nothing is left over. -/
theorem Split.exact_iff : q * (2 : ℝ) ^ (e + k) < μ ↔ (decide (r ≠ 0) || sticky) = true := by
  have hq : q * (2 : ℝ) ^ (e + k) = ((q * 2 ^ k : Nat) : ℝ) * 2 ^ e := by rw [zpow_unit]; push_cast; ring
  rw [hq, Bool.or_eq_true, decide_eq_true_iff]
  rcases Nat.eq_zero_or_pos r with hr | hr
  · simpa [hr] using p.sticky_iff.symm
  · refine iff_of_true (lt_of_lt_of_le ?_ p.low) (.inl hr.ne')
    refine mul_lt_mul_of_pos_right ?_ (by positivity)
    exact_mod_cast Nat.lt_add_of_pos_right hr

/-- The magnitude against the middle of its two neighbours. -/
theorem Split.middle (hk : k ≠ 0) : let mid := (q + 1 / 2) * (2 : ℝ) ^ (e + k)
    let h := 2 ^ (k - 1)
    (r < h → μ < mid) ∧ (h < r → mid < μ) ∧ (r = h → mid ≤ μ ∧ (sticky = true ↔ mid < μ)) := by
  intro mid h
  have hpow : 2 ^ k = 2 * h := by rw [← pow_succ', Nat.sub_add_cancel (Nat.one_le_iff_ne_zero.2 hk)]
  have hmid : mid = ((q * 2 ^ k + h : Nat) : ℝ) * 2 ^ e := by
    have : (2 : ℝ) ^ k = 2 * (h : ℝ) := by exact_mod_cast hpow
    simp only [mid]
    rw [zpow_unit]
    push_cast
    rw [this]; ring
  rw [hmid]
  refine ⟨fun hr => lt_of_lt_of_le p.high ?_, fun hr => lt_of_lt_of_le ?_ p.low, fun hr => ?_⟩
  · refine mul_le_mul_of_nonneg_right ?_ (by positivity)
    exact_mod_cast (by omega : q * 2 ^ k + r + 1 ≤ q * 2 ^ k + h)
  · refine mul_lt_mul_of_pos_right ?_ (by positivity)
    exact_mod_cast (by omega : q * 2 ^ k + h < q * 2 ^ k + r)
  · rw [← hr]; exact ⟨p.low, p.sticky_iff⟩

variable (rd : BitVec 2) (s : Bool)

theorem Split.exact_of_whole (hk : k = 0) : μ = q * (2 : ℝ) ^ (e + k) := by
  have hr : r = 0 := by have := p.rem; rw [hk] at this; omega
  have h := p.exact_iff
  rw [p.whole hk, hr] at h
  exact le_antisymm (not_lt.1 (by simp [h])) p.lower

theorem Split.up_nearest (h0 : rd.toNat = 0) : takesUpper rd s q r k sticky = true ↔
    (q + 1 / 2) * (2 : ℝ) ^ (e + k) < μ ∨ (μ = (q + 1 / 2) * (2 : ℝ) ^ (e + k) ∧ q % 2 = 1) := by
  have hu : (0 : ℝ) < 2 ^ (e + k) := by positivity
  unfold takesUpper
  split
  case isTrue hk =>
    rw [p.exact_of_whole hk]
    refine iff_of_false (by simp) (not_or.2 ⟨by nlinarith, fun h => ?_⟩)
    nlinarith [h.1]
  case isFalse hk =>
    obtain ⟨hlt, hgt, heq⟩ := p.middle hk
    simp only [roundUp, h0, Bool.or_eq_true, Bool.and_eq_true, decide_eq_true_iff]
    rcases lt_trichotomy r (2 ^ (k - 1)) with h | h | h
    · refine iff_of_false (by omega) (not_or.2 ⟨not_lt.2 (hlt h).le, fun h' => (hlt h).ne h'.1⟩)
    · obtain ⟨hle, hst⟩ := heq h
      rw [hst, eq_comm (a := μ)]
      constructor
      · rintro (h' | ⟨-, h' | h'⟩)
        · omega
        · exact .inl h'
        · exact hle.lt_or_eq.imp id fun h'' => ⟨h'', h'⟩
      · rintro (h' | ⟨-, h'⟩)
        · exact .inr ⟨h, .inl h'⟩
        · exact .inr ⟨h, .inr h'⟩
    · exact iff_of_true (.inl h) (.inl (hgt h))

omit p in
theorem takesUpper_zero (h1 : rd.toNat = 1) : takesUpper rd s q r k sticky = false := by
  unfold takesUpper
  split
  · rfl
  · simp only [roundUp, h1]

omit p in
theorem takesUpper_of_exact (q k : Nat) (h : r = 0 ∧ sticky = false) : takesUpper rd s q r k sticky = false := by
  obtain ⟨rfl, rfl⟩ := h
  unfold takesUpper
  split
  · rfl
  · have : 0 < 2 ^ (k - 1) := by positivity
    have := rd.isLt
    obtain h | h | h | h : rd.toNat = 0 ∨ rd.toNat = 1 ∨ rd.toNat = 2 ∨ rd.toNat = 3 := by omega
    · simp [roundUp, h]
      omega
    all_goals simp [roundUp, h]

/-- A magnitude that is a number of the format is not rounded up. -/
theorem Split.not_upper (h : μ ≤ q * (2 : ℝ) ^ (e + k)) : takesUpper rd s q r k sticky = false := by
  have hi := mt p.exact_iff.2 (not_lt.2 h)
  exact takesUpper_of_exact rd s q k (by simpa using hi)

theorem Split.up_directed (h2 : rd.toNat = 2 ∨ rd.toNat = 3) : takesUpper rd s q r k sticky = true ↔
    q * (2 : ℝ) ^ (e + k) < μ ∧ s = decide (rd.toNat = 3) := by
  rw [p.exact_iff]
  unfold takesUpper
  split
  case isTrue hk =>
    have hr : r = 0 := by have := p.rem; rw [hk] at this; omega
    simp [hr, p.whole hk]
  case isFalse hk =>
    rcases h2 with h | h <;> simp [roundUp, h]

section
variable {rd s} {x : Nat} {v : ℝ} (hv : v = sgn s * μ)
  (hx : realOf f x = sgn s * (((if takesUpper rd s q r k sticky then q + 1 else q : Nat) : ℝ) * 2 ^ (e + k)))
include hv

theorem Split.between : Between f s v μ (q * 2 ^ (e + k)) ((q + 1) * 2 ^ (e + k)) :=
  ⟨hv, by positivity, p.lower, p.upper, fun y => number_gap y p.lowq _⟩

include hx

theorem Split.nearest (h : rd.toNat = 0) (heven : (if takesUpper rd s q r k sticky then q + 1 else q) % 2 = 0 → x % 2 = 0)
    (y : Nat) : |realOf f x - v| < |realOf f y - v| ∨
      (|realOf f x - v| = |realOf f y - v| ∧ (realOf f y = realOf f x ∨ x % 2 = 0)) := by
  have hup := p.up_nearest rd s h
  have hlow : q * (2 : ℝ) ^ (e + k) - μ ≤ 0 := by linarith [p.lower]
  have hhigh : 0 ≤ ((q : ℝ) + 1) * 2 ^ (e + k) - μ := by linarith [p.upper]
  cases ht : takesUpper rd s q r k sticky
  all_goals rw [ht] at hup heven hx
  · have hnot := not_or.1 (mt hup.2 (by simp))
    have hle := not_lt.1 hnot.1
    refine (p.between hv).nearest hx (.inr ⟨rfl, .inl rfl⟩) ?_ y
    simp only [Bool.false_eq_true, if_false] at heven ⊢
    rw [abs_of_nonpos hlow, abs_of_nonneg hhigh]
    rcases hle.lt_or_eq with hlt | heq
    · left; linarith
    · right; exact ⟨by linarith, .inr (heven (by have := mt (And.intro heq) hnot.2; omega))⟩
  · refine (p.between hv).nearest hx ?_ (.inr ⟨by push_cast; rfl, .inl (by push_cast; rfl)⟩) y
    simp only [if_true] at heven ⊢
    push_cast
    rw [abs_of_nonpos hlow, abs_of_nonneg hhigh]
    rcases hup.1 rfl with hlt | ⟨heq, hodd⟩
    · left; linarith
    · right; exact ⟨by linarith, .inr (heven (by omega))⟩

omit hv in
/-- What a directed rounding takes. -/
theorem Split.directed (h : rd.toNat = 2 ∨ rd.toNat = 3) :
    realOf f x = sgn s * (if q * (2 : ℝ) ^ (e + k) < μ ∧ s = decide (rd.toNat = 3) then
      ((q : ℝ) + 1) * 2 ^ (e + k) else (q : ℝ) * 2 ^ (e + k)) := by
  rw [hx]
  congr 1
  have hup := p.up_directed rd s h
  split
  case isTrue ht => rw [if_pos (hup.1 ht)]; push_cast; rfl
  case isFalse ht => rw [if_neg (mt hup.2 ht)]

/-- A pattern with the value and the parity of the neighbour that the rounding takes is the rounded pattern. -/
theorem Split.rounded (hlt : x < 2 ^ (1 + f.ebits + f.fbits)) (hn : Number f x)
    (heven : (if takesUpper rd s q r k sticky then q + 1 else q) % 2 = 0 → x % 2 = 0) : Rounded f rd v x := by
  refine ⟨hlt, hn, ?_⟩
  obtain h | h | h | h : rd.toNat = 0 ∨ rd.toNat = 1 ∨ rd.toNat = 2 ∨ rd.toNat = 3 := by have := rd.isLt; omega
  · rw [h]
    exact fun y _ => p.nearest hv hx h heven y
  · rw [takesUpper_zero rd s h] at hx
    obtain ⟨habs, hsign, hmax⟩ := (p.between hv).toward_zero hx rfl
    rw [h]
    exact ⟨habs, hsign, fun y _ => hmax y⟩
  · have hd := p.directed hx (.inl h)
    rw [h] at hd
    obtain ⟨hle, hmin⟩ := (p.between hv).toward_plus hd rfl
    rw [h]
    exact ⟨hle, fun y _ => hmin y⟩
  · have hd := p.directed hx (.inr h)
    rw [h] at hd
    obtain ⟨hle, hmax⟩ := (p.between hv).toward_minus hd rfl
    rw [h]
    exact ⟨hle, fun y _ => hmax y⟩

/-- The rounding changes the number exactly where something is left over. -/
theorem Split.inexact_iff : (decide (r ≠ 0) || sticky) = true ↔ realOf f x ≠ v := by
  have hs : sgn s ≠ 0 := fun h => by simpa [h] using sgn_mul_self s
  rw [hx, hv]
  refine Iff.trans ?_ (mul_right_inj' hs).not.symm
  constructor
  · intro hi
    have hlow := p.exact_iff.2 hi
    have hhigh := p.upper
    split
    · push_cast; exact hhigh.ne'
    · exact hlow.ne
  · intro hne
    by_contra hi
    have hle := not_lt.1 (mt p.exact_iff.1 hi)
    rw [p.not_upper rd s hle, if_neg (by simp)] at hne
    exact hne (le_antisymm p.lower hle)

end

end

/-! ## A finite exact result -/

theorem bias_pos {f : FpFormat} (u : Usable f) : 1 ≤ f.bias := by
  have h : 2 ^ 1 ≤ 2 ^ (f.ebits - 1) := Nat.pow_le_pow_right (by norm_num) (by have := u.exp; omega)
  unfold FpFormat.bias; omega

/-- The largest finite number (R303). -/
theorem realOf_largest {f : FpFormat} (u : Usable f) :
    realOf f (f.largest false) = ((2 ^ (f.fbits + 1) - 1 : Nat) : ℝ) * 2 ^ ((f.bias : ℤ) - f.fbits) := by
  have hb := bias_pos u
  have he := emax_eq u
  have hf : 2 ^ f.fbits + (2 ^ f.fbits - 1) = 2 ^ (f.fbits + 1) - 1 := by
    have := Nat.one_le_two_pow (n := f.fbits); rw [pow_succ]; omega
  have hx : ((f.emax - 1 : Nat) : ℤ) - f.bias - f.fbits = (f.bias : ℤ) - f.fbits := by omega
  rw [FpFormat.largest, realOf_pack f false (by have := emax_lt f; omega)
    (Nat.sub_lt (by positivity) one_pos) (by omega), hf, hx]
  simp [sgn]

theorem realOf_largest_lt {f : FpFormat} (u : Usable f) : realOf f (f.largest false) < (2 : ℝ) ^ ((f.bias : ℤ) + 1) := by
  have hsplit : (2 : ℝ) ^ ((f.bias : ℤ) + 1) = ((2 ^ (f.fbits + 1) : Nat) : ℝ) * 2 ^ ((f.bias : ℤ) - f.fbits) := by
    push_cast
    rw [← zpow_natCast, ← zpow_add₀ (by norm_num)]
    congr 1; push_cast; ring
  rw [realOf_largest u, hsplit]
  refine mul_lt_mul_of_pos_right ?_ (by positivity)
  exact_mod_cast Nat.sub_lt (by positivity) one_pos

/-- The magnitude `μ` of an exact result: m × 2^e, or, with `sticky`, strictly between that and (m + 1) × 2^e. -/
structure Magnitude (m : Nat) (e : ℤ) (sticky : Bool) (μ : ℝ) : Prop where
  pos : m ≠ 0
  low : (m : ℝ) * 2 ^ e ≤ μ
  high : μ < (m + 1 : ℝ) * 2 ^ e
  sticky_iff : sticky = true ↔ (m : ℝ) * 2 ^ e < μ

section
variable {f : FpFormat} {m : Nat} {e : ℤ} {sticky : Bool} {μ : ℝ} (g : Magnitude m e sticky μ)
include g

theorem Magnitude.log_le : (2 : ℝ) ^ ((m.log2 : ℤ) + e) ≤ μ := by
  refine le_trans ?_ g.low
  rw [zpow_add₀ (by norm_num), zpow_natCast]
  refine mul_le_mul_of_nonneg_right ?_ (by positivity)
  exact_mod_cast Nat.log2_self_le g.pos

theorem Magnitude.lt_log : μ < (2 : ℝ) ^ ((m.log2 : ℤ) + e + 1) := by
  refine lt_of_lt_of_le g.high ?_
  rw [add_right_comm, zpow_add₀ (by norm_num)]
  refine mul_le_mul_of_nonneg_right ?_ (by positivity)
  exact_mod_cast (Nat.lt_log2_self : m < 2 ^ (m.log2 + 1))

/-- The exponent of the leading bit lies in the range of normalized numbers (R291). -/
theorem Magnitude.log_range (u : Usable f) (hlo : (2 : ℝ) ^ (1 - (f.bias : ℤ)) ≤ μ) (hhi : μ ≤ realOf f (f.largest false)) :
    1 - (f.bias : ℤ) ≤ m.log2 + e ∧ (m.log2 : ℤ) + e ≤ f.bias := by
  have h1 := (zpow_lt_zpow_iff_right₀ (by norm_num : (1 : ℝ) < 2)).1 (hlo.trans_lt g.lt_log)
  have h2 := (zpow_lt_zpow_iff_right₀ (by norm_num : (1 : ℝ) < 2)).1 ((g.log_le.trans hhi).trans_lt (realOf_largest_lt u))
  omega

end

/-- The significand that `roundFinite` divides: as wide as the format's at least. -/
def significand (f : FpFormat) (m : Nat) : Nat := if m.log2 + 1 < f.fbits + 1 then m * 2 ^ (f.fbits + 1 - (m.log2 + 1)) else m

/-- The number of bits that `roundFinite` rounds away. -/
def excess (f : FpFormat) (m : Nat) : Nat := m.log2 + 1 - (f.fbits + 1)

theorem Magnitude.split {f : FpFormat} {m : Nat} {e : ℤ} {sticky : Bool} {μ : ℝ} (g : Magnitude m e sticky μ)
    (hs : sticky = true → 2 ^ (f.fbits + 1) ≤ m) :
    Split f (significand f m / 2 ^ excess f m) (significand f m % 2 ^ excess f m) (excess f m)
      ((m.log2 : ℤ) + e - f.fbits - excess f m) sticky μ := by
  have hlow := Nat.log2_self_le g.pos
  have hhigh : m < 2 ^ (m.log2 + 1) := Nat.lt_log2_self
  rcases Nat.lt_or_ge m.log2 f.fbits with h | h
  · have hk : excess f m = 0 := by unfold excess; omega
    have hM : significand f m = m * 2 ^ (f.fbits - m.log2) := by
      rw [significand, if_pos (by omega), Nat.add_sub_add_right]
    have hpow (i : Nat) : 2 ^ (m.log2 + i) * 2 ^ (f.fbits - m.log2) = 2 ^ (f.fbits + i) := by
      rw [← pow_add]; congr 1; omega
    have hst : sticky = false := by
      by_contra hc
      have h1 := hs (by simpa using hc)
      have h2 : 2 ^ (m.log2 + 1) ≤ 2 ^ (f.fbits + 1) := Nat.pow_le_pow_right (by norm_num) (by omega)
      omega
    have hval : ((significand f m : Nat) : ℝ) * 2 ^ ((m.log2 : ℤ) + e - f.fbits) = m * 2 ^ e := by
      rw [hM]; push_cast
      rw [mul_assoc, ← zpow_natCast, ← zpow_add₀ (by norm_num)]
      congr 2; omega
    have hμ : μ = m * 2 ^ e := le_antisymm (not_lt.1 (mt g.sticky_iff.2 (by simp [hst]))) g.low
    rw [hk]
    simp only [pow_zero, Nat.div_one, Nat.mod_one, Nat.cast_zero, sub_zero]
    refine ⟨?_, ?_, by norm_num, ?_, ?_, ?_, fun _ => hst⟩
    · have h0 := hpow 0
      rw [add_zero, add_zero] at h0
      rw [hM, ← h0]; exact Nat.mul_le_mul_right _ hlow
    · rw [hM, ← hpow 1]; exact Nat.mul_lt_mul_of_pos_right hhigh (by positivity)
    all_goals simp only [pow_zero, mul_one, add_zero]
    · rw [hval, hμ]
    · rw [hμ, ← hval]; push_cast; nlinarith [show (0 : ℝ) < 2 ^ ((m.log2 : ℤ) + e - f.fbits) by positivity]
    · rw [hval]; exact g.sticky_iff
  · have hk : m.log2 = f.fbits + excess f m := by unfold excess; omega
    have hM : significand f m = m := if_neg (by omega)
    have hexp : (m.log2 : ℤ) + e - f.fbits - excess f m = e := by omega
    rw [hM, hexp]
    have hdiv : m / 2 ^ excess f m * 2 ^ excess f m + m % 2 ^ excess f m = m := Nat.div_add_mod' _ _
    refine ⟨?_, ?_, Nat.mod_lt _ (by positivity), ?_, ?_, ?_, fun h0 => ?_⟩
    · rw [Nat.le_div_iff_mul_le (by positivity), ← pow_add, ← hk]; exact hlow
    · rw [Nat.div_lt_iff_lt_mul (by positivity), ← pow_add, Nat.add_right_comm, ← hk]; exact hhigh
    · rw [hdiv]; exact g.low
    · rw [hdiv]; push_cast; exact g.high
    · rw [hdiv]; exact g.sticky_iff
    · by_contra hc
      have h1 := hs (by simpa using hc)
      rw [hk, h0, add_zero] at hhigh
      omega

/-- The significand after rounding, before it is renormalized. -/
def roundedSignificand (f : FpFormat) (rd : BitVec 2) (s : Bool) (m : Nat) (sticky : Bool) : Nat :=
  let q := significand f m / 2 ^ excess f m
  if takesUpper rd s q (significand f m % 2 ^ excess f m) (excess f m) sticky then q + 1 else q

/-- Whether rounding loses a part of the magnitude. -/
def loses (f : FpFormat) (m : Nat) (sticky : Bool) : Bool := decide (significand f m % 2 ^ excess f m ≠ 0) || sticky

section
variable {f : FpFormat} (rd : BitVec 2) (ns s : Bool) {m : Nat} {e : ℤ} (sticky : Bool)
  (ht : 1 - (f.bias : ℤ) ≤ m.log2 + e)
include ht

theorem roundFinite_eq : roundFinite f rd ns s m e sticky =
    let q := roundedSignificand f rd s m sticky
    let carry := decide (q = 2 ^ (f.fbits + 1))
    let top : ℤ := if carry then m.log2 + e + 1 else m.log2 + e
    if (f.bias : ℤ) < top then .value (overflowResult f rd s) .overflow
    else .value (f.pack s (top + f.bias).toNat ((if carry then 2 ^ f.fbits else q) - 2 ^ f.fbits)) (.inexact (loses f m sticky)) :=
  if_neg (not_lt.2 ht)

theorem roundFinite_of_no_carry (hq : roundedSignificand f rd s m sticky ≠ 2 ^ (f.fbits + 1)) (hb : (m.log2 : ℤ) + e ≤ f.bias) :
    roundFinite f rd ns s m e sticky = .value (f.pack s ((m.log2 : ℤ) + e + f.bias).toNat
      (roundedSignificand f rd s m sticky - 2 ^ f.fbits)) (.inexact (loses f m sticky)) := by
  rw [roundFinite_eq rd ns s sticky ht]
  simp only [decide_eq_true_iff, if_neg hq, if_neg (not_lt.2 hb)]

theorem roundFinite_of_carry (hq : roundedSignificand f rd s m sticky = 2 ^ (f.fbits + 1)) (hb : (m.log2 : ℤ) + e + 1 ≤ f.bias) :
    roundFinite f rd ns s m e sticky = .value (f.pack s ((m.log2 : ℤ) + e + 1 + f.bias).toNat 0)
      (.inexact (loses f m sticky)) := by
  rw [roundFinite_eq rd ns s sticky ht]
  simp only [decide_eq_true_iff, if_pos hq, if_neg (not_lt.2 hb), Nat.sub_self]

end

/-- A finite exact result in the range of normalized numbers is rounded correctly (R287, R288, R304). -/
theorem roundFinite_rounded {f : FpFormat} (u : Usable f) (rd : BitVec 2) (ns s : Bool) {m : Nat} {e : ℤ} {sticky : Bool}
    {μ v : ℝ} (g : Magnitude m e sticky μ) (hs : sticky = true → 2 ^ (f.fbits + 1) ≤ m) (hv : v = sgn s * μ)
    (hlo : (2 : ℝ) ^ (1 - (f.bias : ℤ)) ≤ μ) (hhi : μ ≤ realOf f (f.largest false)) :
    ∃ x, roundFinite f rd ns s m e sticky = .value x (.inexact (loses f m sticky)) ∧ Rounded f rd v x ∧
      (loses f m sticky = true ↔ realOf f x ≠ v) := by
  obtain ⟨ht, hb⟩ := g.log_range u hlo hhi
  have p := g.split hs
  have he := emax_eq u
  have hlt := emax_lt f
  have hfrac := u.frac
  have hexp : (m.log2 : ℤ) + e - f.fbits - excess f m + excess f m = (m.log2 : ℤ) + e - f.fbits := by ring
  -- the pattern, from its exponent and fraction fields
  have finish {E F : Nat} (hE0 : E ≠ 0) (hE : E < f.emax) (hF : F < 2 ^ f.fbits)
      (hval : ((2 ^ f.fbits + F : Nat) : ℝ) * 2 ^ ((E : ℤ) - f.bias - f.fbits) =
        (roundedSignificand f rd s m sticky : ℝ) * 2 ^ ((m.log2 : ℤ) + e - f.fbits))
      (heven : roundedSignificand f rd s m sticky % 2 = 0 → F % 2 = 0) :
      Rounded f rd v (f.pack s E F) ∧ (loses f m sticky = true ↔ realOf f (f.pack s E F) ≠ v) := by
    have hx := realOf_pack f s (by omega : E < 2 ^ f.ebits) hF hE0
    rw [hval, ← hexp] at hx
    have hpar : f.pack s E F % 2 = F % 2 := by
      obtain ⟨b, hb⟩ := Nat.exists_eq_add_of_le hfrac
      rw [FpFormat.pack, hb, pow_add, pow_one, mul_left_comm, Nat.mul_add_mod]
    exact ⟨p.rounded hv hx (pack_lt f s (by omega) hF) (number_pack f s hE hF hE0) (hpar ▸ heven), p.inexact_iff hv hx⟩
  have hbounds : 2 ^ f.fbits ≤ roundedSignificand f rd s m sticky ∧ roundedSignificand f rd s m sticky ≤ 2 ^ (f.fbits + 1) := by
    have := p.lowq
    have := p.highq
    simp only [roundedSignificand]
    split <;> omega
  by_cases hq : roundedSignificand f rd s m sticky = 2 ^ (f.fbits + 1)
  · have hb1 : (m.log2 : ℤ) + e + 1 ≤ f.bias := by
      by_contra hc
      have htop : (m.log2 : ℤ) + e = f.bias := by omega
      have hq0 : significand f m / 2 ^ excess f m = 2 ^ (f.fbits + 1) - 1 := by
        have hlt := p.highq
        simp only [roundedSignificand] at hq
        generalize significand f m / 2 ^ excess f m = q at hq hlt
        split at hq <;> omega
      rw [realOf_largest u, ← hq0, ← htop, ← hexp] at hhi
      simp only [roundedSignificand, p.not_upper rd s hhi, Bool.false_eq_true, if_false] at hq
      have := p.highq
      omega
    refine ⟨_, roundFinite_of_carry rd ns s sticky ht hq hb1, finish (by omega) (by omega) (by positivity) ?_ (by simp)⟩
    have hE : (((m.log2 : ℤ) + e + 1 + f.bias).toNat : ℤ) - f.bias - f.fbits = (m.log2 : ℤ) + e - f.fbits + 1 := by omega
    rw [hq, hE, zpow_add_one₀ (by norm_num), pow_succ]
    push_cast; ring
  · refine ⟨_, roundFinite_of_no_carry rd ns s sticky ht hq hb, finish (by omega) (by omega) ?_ ?_ ?_⟩
    · have := hbounds.2.lt_of_ne hq
      rw [pow_succ] at this; omega
    · have hE : (((m.log2 : ℤ) + e + f.bias).toNat : ℤ) - f.bias - f.fbits = (m.log2 : ℤ) + e - f.fbits := by omega
      rw [hE, Nat.add_sub_cancel' hbounds.1]
    · intro h
      obtain ⟨b, hb⟩ := Nat.exists_eq_add_of_le hfrac
      rw [hb, pow_add, pow_one]; omega

end Sys2Proof.Claims
end

section
/-! PROOF. What the floating-point operations compute, as real numbers (44_floating_point.md R285, R287, R305). -/
namespace Sys2Proof.Claims
open Sys2Proof.Machine

/-! ## Exact results -/

theorem Magnitude.of_exact {m : Nat} (h : m ≠ 0) (e : ℤ) : Magnitude m e false (m * 2 ^ e) := by
  refine ⟨h, le_rfl, ?_, by simp⟩
  nlinarith [show (0 : ℝ) < 2 ^ e by positivity]

/-- A quotient of integers, truncated. -/
theorem Magnitude.of_quotient (m : Nat) {n : Nat} (hn : n ≠ 0) (hq : m / n ≠ 0) (e : ℤ) :
    Magnitude (m / n) e (decide (m % n ≠ 0)) ((m : ℝ) / n * 2 ^ e) := by
  have hn' : (0 : ℝ) < n := by exact_mod_cast Nat.pos_of_ne_zero hn
  have hu : (0 : ℝ) < 2 ^ e := by positivity
  have hdiv := Nat.div_add_mod' m n
  have hmod := Nat.mod_lt m (Nat.pos_of_ne_zero hn)
  refine ⟨hq, mul_le_mul_of_nonneg_right Nat.cast_div_le hu.le, mul_lt_mul_of_pos_right ?_ hu, ?_⟩
  · rw [div_lt_iff₀ hn']
    have hlt : m < (m / n + 1) * n := by rw [Nat.succ_mul]; omega
    exact_mod_cast hlt
  · rw [mul_lt_mul_iff_left₀ hu, lt_div_iff₀ hn', decide_eq_true_iff]
    have hlt : m % n ≠ 0 ↔ m / n * n < m := by omega
    exact_mod_cast hlt

/-- A square root of an integer, truncated. -/
theorem Magnitude.of_sqrt {n r : Nat} (hr : r ≠ 0) (hlo : r * r ≤ n) (hhi : n < (r + 1) * (r + 1)) (e : ℤ) :
    Magnitude r e (decide (r * r ≠ n)) (Real.sqrt n * 2 ^ e) := by
  have hu : (0 : ℝ) < 2 ^ e := by positivity
  refine ⟨hr, mul_le_mul_of_nonneg_right ?_ hu.le, mul_lt_mul_of_pos_right ?_ hu, ?_⟩
  · exact Real.le_sqrt_of_sq_le (by rw [sq]; exact_mod_cast hlo)
  · rw [Real.sqrt_lt' (by positivity), sq]; exact_mod_cast hhi
  · rw [mul_lt_mul_iff_left₀ hu, Real.lt_sqrt (by positivity), sq, decide_eq_true_iff]
    have hlt : r * r ≠ n ↔ r * r < n := ⟨fun h => lt_of_le_of_ne hlo h, fun h => h.ne⟩
    exact_mod_cast hlt

/-- An exact result that stands for the real number `v`, with bits enough below a sticky one for a format. -/
inductive Stands (f : FpFormat) (v : ℝ) : FpExact → Prop
  | zero (s : Bool) (h : v = 0) : Stands f v (.zero s)
  | finite {s : Bool} {m : Nat} {e : ℤ} {sticky : Bool} {μ : ℝ} (hv : v = sgn s * μ) (g : Magnitude m e sticky μ)
      (hs : sticky = true → 2 ^ (f.fbits + 1) ≤ m) : Stands f v (.finite s m e sticky)

theorem realOf_zero (f : FpFormat) (s : Bool) : realOf f (f.zero s) = 0 :=
  realOf_of_exp_zero _ _ (exp_pack f s (by positivity) (by positivity))

theorem rounded_zero {f : FpFormat} (u : Usable f) (rd : BitVec 2) (s : Bool) : Rounded f rd 0 (f.zero s) := by
  have hval : (numberOf f (f.zero s) : ℝ) = 0 := realOf_zero f s
  have he := emax_eq u
  have heven : f.zero s % 2 = 0 := by
    obtain ⟨b, hb⟩ := Nat.exists_eq_add_of_le u.frac
    rw [FpFormat.zero, FpFormat.pack, hb, pow_add, pow_one, mul_left_comm, Nat.mul_add_mod]
  refine ⟨pack_lt f s (by positivity) (by positivity), ?_, ?_⟩
  · rw [Number, FpFormat.zero, exp_pack f s (by positivity) (by positivity), frac_pack f s (by positivity)]
    exact ⟨by omega, fun _ => rfl⟩
  · obtain h | h | h | h : rd.toNat = 0 ∨ rd.toNat = 1 ∨ rd.toNat = 2 ∨ rd.toNat = 3 := by have := rd.isLt; omega
    all_goals rw [h]
    all_goals simp only [hval, sub_zero, abs_zero, mul_zero, le_refl, true_and]
    · exact fun y _ => (abs_nonneg _).lt_or_eq.imp id fun h => ⟨h, .inr heven⟩
    · exact fun y _ h => h
    · exact fun y _ h => h
    · exact fun y _ h => h

/-- An exact result whose significand fits the format loses nothing. -/
theorem loses_of_lt {f : FpFormat} {m : Nat} (h : m < 2 ^ (f.fbits + 1)) : loses f m false = false := by
  have hk : excess f m = 0 := by
    rcases Nat.eq_zero_or_pos m with rfl | hm
    · simp [excess]
    · have := (Nat.log2_lt hm.ne').2 h
      unfold excess; omega
  simp [loses, hk, Nat.mod_one]

/-- Whether rounding an exact result loses a part of it. -/
def inexactOf (f : FpFormat) : FpExact → Bool
  | .finite _ m _ sticky => loses f m sticky
  | _ => false

section
variable {f : FpFormat} (u : Usable f) {v : ℝ} {r : FpExact}
include u

omit u in
theorem inRange_finite {s : Bool} {m : Nat} {e : ℤ} {sticky : Bool} {μ : ℝ} (hv : v = sgn s * μ) (g : Magnitude m e sticky μ)
    (hr : InRange f v) : (2 : ℝ) ^ (1 - (f.bias : ℤ)) ≤ μ ∧ μ ≤ realOf f (f.largest false) := by
  have hpos : 0 < μ := lt_of_lt_of_le (by have := g.pos; positivity) g.low
  have habs : |v| = μ := by rw [hv, abs_mul, abs_sgn, one_mul, abs_of_pos hpos]
  rcases hr with h | h
  · rw [h, abs_zero] at habs
    exact absurd habs hpos.ne
  · rwa [habs] at h

/-- An exact result in the range of normalized numbers is rounded correctly. -/
theorem Stands.roundExact (h : Stands f v r) (hr : InRange f v) (rd : BitVec 2) (ns : Bool) (qnan : Nat) :
    ∃ x, roundExact f rd ns qnan r = .value x (.inexact (inexactOf f r)) ∧ Rounded f rd v x ∧
      (inexactOf f r = true ↔ realOf f x ≠ v) := by
  cases h with
  | zero s h =>
    subst h
    exact ⟨_, rfl, rounded_zero u rd s, by simp [realOf_zero, inexactOf]⟩
  | finite hv g hs =>
    obtain ⟨hlo, hhi⟩ := inRange_finite hv g hr
    exact roundFinite_rounded u rd ns _ g hs hv hlo hhi

end

/-! ## Values -/

/-- A value that stands for the real number `a`, with the significand of a normalized number of a format. -/
inductive IsValue (f : FpFormat) (a : ℝ) : FpValue → Prop
  | zero (s : Bool) (h : a = 0) : IsValue f a (.zero s)
  | finite {s : Bool} {m : Nat} {e : ℤ} (hlo : 2 ^ f.fbits ≤ m) (hhi : m < 2 ^ (f.fbits + 1)) (h : a = sgn s * (m * 2 ^ e)) :
      IsValue f a (.finite s m e)

theorem isValue_of_number {f : FpFormat} {x : Nat} (h : Number f x) : IsValue f (realOf f x) (f.value x) := by
  unfold FpFormat.value
  rw [if_neg h.1]
  split
  case isTrue h0 => exact .zero _ (realOf_of_exp_zero f x h0)
  case isFalse h0 =>
    have hlt : f.frac x < 2 ^ f.fbits := Nat.mod_lt _ (by positivity)
    exact .finite (Nat.le_add_right _ _) (by rw [pow_succ]; omega) (realOf_of_exp f x h0)

section
variable {f g : FpFormat} {a b : ℝ} {x y : FpValue} (ha : IsValue f a x) (hb : IsValue f b y)

theorem ne_zero_of_two_pow_le {m n : Nat} (h : 2 ^ n ≤ m) : m ≠ 0 := (lt_of_lt_of_le (by positivity) h).ne'

theorem cast_signed (s : Bool) (m : Nat) : ((signed s m : ℤ) : ℝ) = sgn s * m := by
  cases s <;> simp [signed, sgn]

theorem sgn_natAbs (n : ℤ) : sgn (decide (n < 0)) * (n.natAbs : ℝ) = n := by
  rcases lt_or_ge n 0 with h | h
  · have : ((n.natAbs : ℤ) : ℝ) = -n := by rw [Int.ofNat_natAbs_of_nonpos h.le]; push_cast; rfl
    rw [Int.cast_natCast] at this
    simp [sgn, h, this]
  · have : ((n.natAbs : ℤ) : ℝ) = n := by rw [Int.natAbs_of_nonneg h]
    rw [Int.cast_natCast] at this
    simp [sgn, h.not_gt, this]

/-- A signed significand brought to a lower exponent. -/
theorem signed_scaled (s : Bool) (m : Nat) {e low : ℤ} (h : low ≤ e) :
    ((signed s (m * 2 ^ (e - low).toNat) : ℤ) : ℝ) * 2 ^ low = sgn s * (m * 2 ^ e) := by
  obtain ⟨d, rfl⟩ := Int.le.dest h
  rw [cast_signed, add_sub_cancel_left, Int.toNat_natCast, zpow_add₀ (by norm_num), zpow_natCast]
  push_cast; ring

include ha

theorem IsValue.neg : IsValue f (-a) x.neg := by
  cases ha with
  | zero s h => exact .zero _ (by simp [h])
  | finite hlo hhi h => exact .finite hlo hhi (by rw [h, sgn_not]; ring)

theorem IsValue.exact : Stands g a x.exact := by
  cases ha with
  | zero s h => exact .zero s h
  | finite hlo hhi h =>
    exact .finite h (.of_exact (ne_zero_of_two_pow_le hlo) _) (by simp)

include hb

/-- The sum is exact (R287). -/
theorem IsValue.add (rd : BitVec 2) : Stands g (a + b) (fpAdd rd x y) := by
  cases ha with
  | zero s h =>
    cases hb with
    | zero t h' => exact .zero _ (by rw [h, h', add_zero])
    | finite hlo hhi h' =>
      exact .finite (by rw [h, zero_add, h']) (.of_exact (ne_zero_of_two_pow_le hlo) _) (by simp)
  | @finite s m e hlo hhi h =>
    cases hb with
    | zero t h' =>
      exact .finite (by rw [h', add_zero, h]) (.of_exact (ne_zero_of_two_pow_le hlo) _) (by simp)
    | @finite t n d hlo' hhi' h' =>
      have hsum := congrArg₂ (· + ·) (signed_scaled s m (min_le_left e d)) (signed_scaled t n (min_le_right e d))
      simp only [← add_mul, ← h, ← h', ← Int.cast_add] at hsum
      simp only [fpAdd]
      split
      case isTrue h0 => exact .zero _ (by rw [← hsum, h0]; simp)
      case isFalse h0 =>
        refine .finite ?_ (.of_exact (Int.natAbs_ne_zero.2 h0) _) (by simp)
        rw [← mul_assoc, sgn_natAbs, hsum]

/-- The product is exact (R287). -/
theorem IsValue.mul : Stands g (a * b) (fpMul x y) := by
  cases ha with
  | zero s h =>
    cases hb with
    | zero t h' => exact .zero _ (by rw [h, zero_mul])
    | finite hlo hhi h' => exact .zero _ (by rw [h, zero_mul])
  | @finite s m e hlo hhi h =>
    cases hb with
    | zero t h' => exact .zero _ (by rw [h', mul_zero])
    | @finite t n d hlo' hhi' h' =>
      refine .finite ?_ (.of_exact (mul_ne_zero (ne_zero_of_two_pow_le hlo) (ne_zero_of_two_pow_le hlo')) _) (by simp)
      rw [h, h', sgn_xor, zpow_add₀ (by norm_num)]
      push_cast; ring

/-- The quotient, truncated to more bits than the format has (R287). -/
theorem IsValue.div (hb0 : b ≠ 0) : Stands f (a / b) (fpDiv (f.fbits + 4) x y) := by
  cases hb with
  | zero t h' => exact absurd h' hb0
  | @finite t n d hlo' hhi' h' =>
    cases ha with
    | zero s h => exact .zero _ (by rw [h, zero_div])
    | @finite s m e hlo hhi h =>
      have hn : n ≠ 0 := ne_zero_of_two_pow_le hlo'
      have hq : 2 ^ (f.fbits + 1) ≤ m * 2 ^ (f.fbits + 4) / n := by
        rw [Nat.le_div_iff_mul_le (Nat.pos_of_ne_zero hn)]
        calc 2 ^ (f.fbits + 1) * n ≤ 2 ^ (f.fbits + 1) * 2 ^ (f.fbits + 1) := Nat.mul_le_mul_left _ hhi'.le
          _ ≤ 2 ^ f.fbits * 2 ^ (f.fbits + 4) := by
            rw [← pow_add, ← pow_add]; exact Nat.pow_le_pow_right (by norm_num) (by omega)
          _ ≤ m * 2 ^ (f.fbits + 4) := Nat.mul_le_mul_right _ hlo
      refine .finite ?_ (.of_quotient _ hn (ne_zero_of_two_pow_le hq) _) (fun _ => hq)
      have hn' : (n : ℝ) ≠ 0 := by exact_mod_cast hn
      rw [h, h', sgn_xor, zpow_sub₀ (by norm_num), zpow_sub₀ (by norm_num), zpow_natCast]
      have ht : sgn t ≠ 0 := fun h0 => by simpa [h0] using sgn_mul_self t
      have hst : sgn s / sgn t = sgn s * sgn t := by rw [div_eq_iff ht, mul_assoc, sgn_mul_self, mul_one]
      rw [mul_div_mul_comm, hst]
      push_cast
      field_simp

end

/-- The integer square root, digit by digit (R287 v). -/
theorem isqrt_spec (n : Nat) : ∀ b r, r * r ≤ n → n < (r + 2 ^ b) * (r + 2 ^ b) →
    isqrt n b r * isqrt n b r ≤ n ∧ n < (isqrt n b r + 1) * (isqrt n b r + 1)
  | 0, r, hlo, hhi => ⟨hlo, hhi⟩
  | b + 1, r, hlo, hhi => by
    rw [isqrt]
    split
    case isTrue h => exact isqrt_spec n b _ h (by rwa [Nat.add_assoc, ← Nat.two_mul, ← pow_succ'])
    case isFalse h => exact isqrt_spec n b r hlo (not_le.1 h)

/-- The extra bits of a square root: the exponent that is left is even (R287 v). -/
def sqrtBits (p : Nat) (e : ℤ) : Nat := if (e - (p + 6)) % 2 = 0 then p + 6 else p + 7

theorem sqrtBits_spec (p : Nat) (e : ℤ) : p + 6 ≤ sqrtBits p e ∧ sqrtBits p e ≤ p + 7 ∧
    e = (e - sqrtBits p e) / 2 + (e - sqrtBits p e) / 2 + sqrtBits p e := by
  unfold sqrtBits; split <;> (push_cast; omega)

theorem fpSqrt_finite (p m : Nat) (e : ℤ) : fpSqrt p (.finite false m e) =
    let n := m * 2 ^ sqrtBits p e
    let r := isqrt n (p + 5) 0
    .finite false r ((e - sqrtBits p e) / 2) (decide (r * r ≠ n)) := rfl

/-- The square root, truncated to more bits than the format has (R287 v). -/
theorem IsValue.sqrt {f : FpFormat} {a : ℝ} {x : FpValue} (ha : IsValue f a x) (h0 : 0 ≤ a) :
    Stands f (Real.sqrt a) (fpSqrt (f.fbits + 1) x) := by
  cases ha with
  | zero s h => exact .zero _ (by rw [h, Real.sqrt_zero])
  | @finite s m e hlo hhi h =>
    have hm : (0 : ℝ) < m := by exact_mod_cast Nat.pos_of_ne_zero (ne_zero_of_two_pow_le hlo)
    cases s with
    | true =>
      have : (0 : ℝ) < m * 2 ^ e := by positivity
      rw [h, sgn, if_pos rfl] at h0
      linarith
    | false =>
      obtain ⟨hk, hk', he⟩ := sqrtBits_spec (f.fbits + 1) e
      rw [fpSqrt_finite]
      dsimp only
      generalize sqrtBits (f.fbits + 1) e = k at hk hk' he ⊢
      generalize hn : m * 2 ^ k = n
      generalize (e - k) / 2 = j at he ⊢
      have hnlo : 2 ^ (f.fbits + (f.fbits + 7)) ≤ n := by
        rw [← hn, pow_add]
        exact Nat.mul_le_mul hlo (Nat.pow_le_pow_right (by norm_num) (by omega))
      have hnhi : n < 2 ^ (f.fbits + 1 + (f.fbits + 8)) := by
        rw [← hn, pow_add]
        exact Nat.mul_lt_mul_of_lt_of_le hhi (Nat.pow_le_pow_right (by norm_num) (by omega)) (by positivity)
      obtain ⟨hrlo, hrhi⟩ := isqrt_spec n (f.fbits + 1 + 5) 0 (by omega) (by
        rw [Nat.zero_add, ← pow_add]
        exact hnhi.trans (Nat.pow_lt_pow_right (by norm_num) (by omega)))
      generalize isqrt n (f.fbits + 1 + 5) 0 = r at hrlo hrhi ⊢
      have hr : 2 ^ (f.fbits + 1) ≤ r := by
        by_contra hc
        have hle : (r + 1) * (r + 1) ≤ 2 ^ (f.fbits + 1) * 2 ^ (f.fbits + 1) := Nat.mul_le_mul (by omega) (by omega)
        rw [← pow_add] at hle
        have : 2 ^ (f.fbits + 1 + (f.fbits + 1)) ≤ 2 ^ (f.fbits + (f.fbits + 7)) :=
          Nat.pow_le_pow_right (by norm_num) (by omega)
        omega
      refine .finite ?_ (.of_sqrt (ne_zero_of_two_pow_le hr) hrlo hrhi j) (fun _ => hr)
      have hu : (0 : ℝ) ≤ 2 ^ j := by positivity
      have ha : a = n * (2 ^ j * 2 ^ j) := by
        rw [h, ← hn, he, zpow_add₀ (by norm_num), zpow_add₀ (by norm_num), zpow_natCast]
        simp [sgn]; ring
      rw [ha, Real.sqrt_mul (by positivity), Real.sqrt_mul_self hu]
      simp [sgn]

/-- An integer is its own exact result (R286). -/
theorem stands_exactOfInt (f : FpFormat) (n : ℤ) : Stands f n (exactOfInt n) := by
  unfold exactOfInt
  split
  case isTrue h => exact .zero _ (by simp [h])
  case isFalse h =>
    refine .finite ?_ (.of_exact (Int.natAbs_ne_zero.2 h) 0) (by simp)
    rw [zpow_zero, mul_one, sgn_natAbs]

end Sys2Proof.Claims
end

section
/-! PROOF. The floating-point instructions over the real numbers: arithmetic, conversions and compares (44_floating_point.md R313 to
R332). -/
namespace Sys2Proof.Claims
open Sys2Proof.Machine

/-! ## Operands and ends -/

section
variable {f : FpFormat} {x y : Nat} {s : State} {d : FpDest}

theorem not_nan_of_number (h : Number f x) : f.isNan x = false := by simp [FpFormat.isNan, h.1]

theorem not_denormal_of_number (h : Number f x) : f.isDenormal x = false := by
  simpa [FpFormat.isDenormal] using h.2

theorem fpBinary_of_number (op : FpValue → FpValue → FpExact) (hx : Number f x) (hy : Number f y) : fpBinary f op x y d s =
    fpFinish d (roundExact f s.fsr.rd s.fsr.ns (qnan s d) (op (f.value x) (f.value y))) := by
  simp [fpBinary, fpOperands, not_nan_of_number, not_denormal_of_number, hx, hy]

theorem fpUnary_of_number {g : FpFormat} (op : FpValue → FpExact) (hx : Number f x) : fpUnary f g op x d s =
    fpFinish d (roundExact g s.fsr.rd s.fsr.ns (qnan s d) (op (f.value x))) := by
  simp [fpUnary, fpOperands, not_nan_of_number, not_denormal_of_number, hx]

theorem fpInteger_of_number {rd : Reg} (hx : Number f x) :
    fpInteger f x rd s = fpFinish (.single rd) (fpToInt (f.value x)) := by
  simp [fpInteger, fpOperands, not_nan_of_number, not_denormal_of_number, hx]

theorem fpCmp_of_number {onQuiet : Bool} (hx : Number f x) (hy : Number f y) :
    fpCmp f onQuiet x y s = .done .none (.fcc (fpCompare (f.value x) (f.value y))) := by
  simp [fpCmp, not_nan_of_number, not_denormal_of_number, hx, hy]

theorem inexact_masked : ∀ nx nv of uf dz tnx : Bool, (nx = true → tnx = false) →
    (FpExc.inexact nx).bits &&& FpExc.bits { nv := nv, of := of, uf := uf, dz := dz, nx := tnx } = 0 := by decide

/-- An end that raises at most a masked inexact exception writes its result (R294 d). -/
theorem ended_inexact {nx : Bool} (hnx : nx = true → s.fsr.tem.nx = false) (w : Word) (v : FpWrite) :
    ended s w (.done (.inexact nx) v) = written s (.inexact nx) v :=
  if_neg (not_not_intro (inexact_masked nx _ _ _ _ _ hnx))

end

section
variable {s : State} (hset : Settled s) (hon : FpOn s) (hm : s.fpMode = .execution)
include hset hon hm

/-- An FPop whose exact result stands for a real number in range rounds it. -/
theorem rounds_of_stands (hnx : s.fsr.tem.nx = false) {f : FpFormat} (u : Usable f) {i : Instr} {w : Word} {d : FpDest} {ns : Bool}
    {q : Nat} {r : FpExact} {v : ℝ} (hi : exec i s = fpop w (fpFinish d (roundExact f s.fsr.rd ns q r)) s) (hr : Stands f v r)
    (hv : InRange f v) : Rounds s f i d.write v := by
  obtain ⟨x, hx, hround, hinexact⟩ := hr.roundExact u hv s.fsr.rd ns q
  refine ⟨x, _, hround, hinexact, ?_⟩
  rw [hi, hx, fpop_execution hset _ _ hon hm]
  exact congrArg _ (ended_inexact (fun _ => hnx) ..)

/-- An FPop whose exact result fits its format writes it, and raises nothing. -/
theorem writes_of_stands {f : FpFormat} (u : Usable f) {i : Instr} {w : Word} {d : FpDest} {ns : Bool}
    {q : Nat} {r : FpExact} {v : ℝ} (hi : exec i s = fpop w (fpFinish d (roundExact f s.fsr.rd ns q r)) s) (hr : Stands f v r)
    (hv : InRange f v) (hfit : inexactOf f r = false) :
    ∃ x < 2 ^ (1 + f.ebits + f.fbits), exec i s = .next (written s .none (d.write x)) ∧ Number f x ∧ realOf f x = v := by
  obtain ⟨x, hx, hround, hinexact⟩ := hr.roundExact u hv s.fsr.rd ns q
  rw [hfit] at hx hinexact
  refine ⟨x, hround.1, ?_, hround.2.1, not_not.1 (mt hinexact.2 (by simp))⟩
  rw [hi, hx, fpop_execution hset _ _ hon hm]
  exact congrArg _ (ended_inexact (by simp) ..)

/-- The five operations of a format on numbers round their exact results. -/
theorem arithmetic_rounds (hnx : s.fsr.tem.nx = false) {f : FpFormat} (u : Usable f) {d : FpDest} {x y : Nat}
    {add sub mul div sqrt : Instr}
    (hadd : exec add s = fpop (encode add) (fpBinary f (fpAdd s.fsr.rd) x y d s) s)
    (hsub : exec sub s = fpop (encode sub) (fpBinary f (fun a b => fpAdd s.fsr.rd a b.neg) x y d s) s)
    (hmul : exec mul s = fpop (encode mul) (fpBinary f fpMul x y d s) s)
    (hdiv : exec div s = fpop (encode div) (fpBinary f (fpDiv (f.fbits + 4)) x y d s) s)
    (hsqrt : exec sqrt s = fpop (encode sqrt) (fpUnary f f (fpSqrt (f.fbits + 1)) y d s) s) :
    let a := realOf f x
    let b := realOf f y
    let both := Number f x ∧ Number f y
    ∀ p ∈ ([(add, both, a + b), (sub, both, a - b), (mul, both, a * b), (div, both ∧ b ≠ 0, a / b),
      (sqrt, Number f y ∧ 0 ≤ b, Real.sqrt b)] : List (Instr × Prop × ℝ)),
      p.2.1 → InRange f p.2.2 → Rounds s f p.1 d.write p.2.2 := by
  intro a b both
  have binary (op : FpValue → FpValue → FpExact) {i : Instr} {v : ℝ}
      (hi : exec i s = fpop (encode i) (fpBinary f op x y d s) s) (h : both)
      (hv : Stands f v (op (f.value x) (f.value y))) (hr : InRange f v) : Rounds s f i d.write v :=
    rounds_of_stands hset hon hm hnx u (hi.trans (by rw [fpBinary_of_number op h.1 h.2])) hv hr
  simp only [List.forall_mem_cons, List.not_mem_nil, false_imp_iff, implies_true, and_true]
  refine ⟨fun h => ?_, fun h => ?_, fun h => ?_, fun h => ?_, fun h hr => ?_⟩
  · exact binary _ hadd h ((isValue_of_number h.1).add (isValue_of_number h.2) _)
  · rw [sub_eq_add_neg]
    exact binary _ hsub h ((isValue_of_number h.1).add (isValue_of_number h.2).neg _)
  · exact binary _ hmul h ((isValue_of_number h.1).mul (isValue_of_number h.2))
  · exact binary _ hdiv h.1 ((isValue_of_number h.1.1).div (isValue_of_number h.1.2) h.2)
  · exact rounds_of_stands hset hon hm hnx u (hsqrt.trans (by rw [fpUnary_of_number _ h.1])) ((isValue_of_number h.1).sqrt h.2) hr

end

/-- Settles O43. -/
theorem arithmeticIsCorrectlyRounded : Obligations.ArithmeticIsCorrectlyRounded := by
  intro s rd rs1 rs2 hset hon hm hnx
  rw [← readF_eq, ← readF_eq]
  exact ⟨arithmetic_rounds hset hon hm hnx usable_single (d := .single rd) rfl rfl rfl rfl rfl,
    arithmetic_rounds hset hon hm hnx usable_double (d := .double rd) rfl rfl rfl rfl rfl⟩

end Sys2Proof.Claims
end

section
/-! PROOF. The floating-point conversions and compares over the rational numbers (44_floating_point.md R323 to R332). -/
namespace Sys2Proof.Claims
open Sys2Proof.Machine

/-! ## The range of a format -/

section
variable {f : FpFormat} (u : Usable f)
include u

theorem two_pow_bias_le_largest : (2 : ℝ) ^ (f.bias : ℤ) ≤ realOf f (f.largest false) := by
  have hsplit : (2 : ℝ) ^ (f.bias : ℤ) = ((2 ^ f.fbits : Nat) : ℝ) * 2 ^ ((f.bias : ℤ) - f.fbits) := by
    push_cast
    rw [← zpow_natCast, ← zpow_add₀ (by norm_num), add_sub_cancel]
  rw [realOf_largest u, hsplit]
  refine mul_le_mul_of_nonneg_right ?_ (by positivity)
  have := Nat.one_le_two_pow (n := f.fbits)
  exact_mod_cast (by rw [pow_succ]; omega : 2 ^ f.fbits ≤ 2 ^ (f.fbits + 1) - 1)

/-- A number of a format is in its range. -/
theorem inRange_of_number {x : Nat} (h : Number f x) : InRange f (realOf f x) := by
  by_cases h0 : f.exp x = 0
  · exact .inl (realOf_of_exp_zero f x h0)
  · right
    have he := emax_eq u
    have hexp : f.exp x < 2 ^ f.ebits := Nat.mod_lt _ (by positivity)
    have hfrac : f.frac x < 2 ^ f.fbits := Nat.mod_lt _ (by positivity)
    have hmax : f.exp x ≤ 2 * f.bias := by
      have hne := h.1
      have : f.emax + 1 = 2 ^ f.ebits := Nat.sub_add_cancel Nat.one_le_two_pow
      omega
    have habs : |realOf f x| = (2 ^ f.fbits + f.frac x : Nat) * (2 : ℝ) ^ ((f.exp x : ℤ) - f.bias - f.fbits) := by
      rw [realOf_of_exp f x h0, abs_mul, abs_sgn, one_mul, abs_of_nonneg (by positivity)]
    rw [habs]
    constructor
    · calc (2 : ℝ) ^ (1 - (f.bias : ℤ)) = (2 ^ f.fbits : Nat) * 2 ^ (1 - (f.bias : ℤ) - f.fbits) := by
            push_cast
            rw [← zpow_natCast, ← zpow_add₀ (by norm_num), add_sub_cancel]
        _ ≤ _ := by
            refine mul_le_mul (by exact_mod_cast Nat.le_add_right _ _) (zpow_le_zpow_right₀ (by norm_num) (by omega))
              (by positivity) (by positivity)
    · refine le_trans ?_ (realOf_largest u).ge
      refine mul_le_mul ?_ (zpow_le_zpow_right₀ (by norm_num) (by omega)) (by positivity) (by positivity)
      exact_mod_cast (by rw [pow_succ]; omega : 2 ^ f.fbits + f.frac x ≤ 2 ^ (f.fbits + 1) - 1)

/-- A 32-bit integer is in the range of a format. -/
theorem inRange_of_int (hb : 31 ≤ f.bias) {n : ℤ} (hlo : -2 ^ 31 ≤ n) (hhi : n < 2 ^ 31) : InRange f n := by
  rcases eq_or_ne n 0 with rfl | hn
  · exact .inl (by simp)
  · right
    have habs : |(n : ℝ)| = ((|n| : ℤ) : ℝ) := by push_cast; rfl
    rw [habs]
    constructor
    · calc (2 : ℝ) ^ (1 - (f.bias : ℤ)) ≤ 2 ^ (0 : ℤ) := zpow_le_zpow_right₀ (by norm_num) (by omega)
        _ ≤ _ := by rw [zpow_zero]; exact_mod_cast Int.one_le_abs hn
    · calc ((|n| : ℤ) : ℝ) ≤ 2 ^ (31 : ℤ) := by
            have : |n| ≤ 2 ^ 31 := abs_le.2 ⟨hlo, hhi.le⟩
            exact_mod_cast this
        _ ≤ 2 ^ (f.bias : ℤ) := zpow_le_zpow_right₀ (by norm_num) (by omega)
        _ ≤ _ := two_pow_bias_le_largest u

end

/-- Every number of single precision is in the range of double precision. -/
theorem inRange_double_of_single {v : ℝ} (h : InRange .single v) : InRange .double v := by
  refine h.imp id fun ⟨hlo, hhi⟩ => ⟨le_trans (zpow_le_zpow_right₀ (by norm_num) (by decide)) hlo, ?_⟩
  calc |v| ≤ realOf .single (FpFormat.single.largest false) := hhi
    _ ≤ 2 ^ ((FpFormat.single.bias : ℤ) + 1) := (realOf_largest_lt usable_single).le
    _ ≤ 2 ^ (FpFormat.double.bias : ℤ) := zpow_le_zpow_right₀ (by norm_num) (by decide)
    _ ≤ _ := two_pow_bias_le_largest usable_double

/-! ## Conversions that are exact -/

theorem inexactOf_exactOfInt {f : FpFormat} {n : ℤ} (h : n.natAbs < 2 ^ (f.fbits + 1)) : inexactOf f (exactOfInt n) = false := by
  unfold exactOfInt
  split
  · rfl
  · exact loses_of_lt h

theorem inexactOf_exact {f g : FpFormat} (hfg : f.fbits ≤ g.fbits) {a : ℝ} {x : FpValue} (h : IsValue f a x) :
    inexactOf g x.exact = false := by
  cases h with
  | zero => rfl
  | finite hlo hhi h => exact loses_of_lt (hhi.trans_le (Nat.pow_le_pow_right (by norm_num) (by omega)))

theorem toInt_bounds (w : Word) : -2 ^ 31 ≤ w.toInt ∧ w.toInt < 2 ^ 31 := ⟨w.le_toInt, w.toInt_lt⟩

theorem ofBits_or_none : ∀ nv of uf dz nx : Bool,
    FpExc.ofBits (FpExc.bits { nv := nv, of := of, uf := uf, dz := dz, nx := nx } ||| FpExc.none.bits) =
      { nv := nv, of := of, uf := uf, dz := dz, nx := nx } := by decide

/-- An end that raises nothing leaves AEXC alone. -/
theorem written_none (s : State) (v : FpWrite) : written s .none v =
    { applyWrite (done s) v with fsr := { (applyWrite (done s) v).fsr with cexc := .none } } := by
  have ha : FpExc.ofBits (s.fsr.aexc.bits ||| FpExc.none.bits) = s.fsr.aexc := ofBits_or_none ..
  unfold written
  rw [ha]
  cases v with
  | single rd x => simp only [applyWrite, writeF_eq]; rfl
  | double rd x => simp only [applyWrite, writeFd, writeF_eq]; rfl
  | fcc x => rfl

/-- Settles O46. -/
theorem integerToDoubleIsExact : Obligations.IntegerToDoubleIsExact := by
  intro s rd rs1 rs2 hset hon hm
  rw [← readF_eq]
  obtain ⟨hlo, hhi⟩ := toInt_bounds (readF s rs2)
  obtain ⟨x, hx, he, hn, hv⟩ := writes_of_stands hset hon hm usable_double (d := .double rd) (i := .fitod rd rs1 rs2) rfl
    (stands_exactOfInt .double (readF s rs2).toInt) (inRange_of_int usable_double (by decide) hlo hhi)
    (inexactOf_exactOfInt (by
      have : (2 : Nat) ^ 31 < 2 ^ (FpFormat.double.fbits + 1) := by decide
      omega))
  have hnat : (BitVec.ofNat 64 x).toNat = x := by rw [BitVec.toNat_ofNat]; exact Nat.mod_eq_of_lt hx
  refine ⟨BitVec.ofNat 64 x, ?_, by rwa [hnat], ?_⟩
  · rw [he, written_none]
    simp only [applyWrite, writeFd, writeF_eq]; rfl
  · rw [hnat]
    have : ((numberOf .double x : ℚ) : ℝ) = (((readF s rs2).toInt : ℚ) : ℝ) := by rw [← realOf, hv]; simp
    exact_mod_cast this

/-! ## Compares -/

/-- The relation of two numbers as fcc tells it (R329). -/
def orderOf (p q : ℚ) : BitVec 2 := if p = q then 0 else if p < q then 1 else 2

theorem signed_sign {f : FpFormat} {a : ℝ} {s : Bool} {m : Nat} {e : ℤ} (hlo : 2 ^ f.fbits ≤ m) (h : a = sgn s * (m * 2 ^ e)) :
    (s = false → 0 < a) ∧ (s = true → a < 0) := by
  have hpos : (0 : ℝ) < m * 2 ^ e := by
    have : (0 : ℝ) < m := by exact_mod_cast Nat.pos_of_ne_zero (ne_zero_of_two_pow_le hlo)
    positivity
  cases s <;> simp [h, sgn, hpos]

/-- The compare of two values is that of the numbers they stand for. -/
theorem fpCompare_eq {f : FpFormat} {p q : ℚ} {x y : FpValue} (hp : IsValue f p x) (hq : IsValue f q y) :
    fpCompare x y = orderOf p q := by
  have cast_eq : p = q ↔ (p : ℝ) = q := Rat.cast_inj.symm
  have cast_lt : p < q ↔ (p : ℝ) < q := Rat.cast_lt.symm
  simp only [orderOf, cast_eq, cast_lt]
  generalize (p : ℝ) = a at hp
  generalize (q : ℝ) = b at hq
  cases hp with
  | zero s h =>
    cases hq with
    | zero t h' => rw [h, h', if_pos rfl]; rfl
    | @finite t n d hlo hhi h' =>
      obtain ⟨hpos, hneg⟩ := signed_sign hlo h'
      rw [h, fpCompare]
      cases t
      · rw [if_neg (hpos rfl).ne, if_pos (hpos rfl)]; rfl
      · rw [if_neg (hneg rfl).ne', if_neg (hneg rfl).not_gt]; rfl
  | @finite s m e hlo hhi h =>
    cases hq with
    | zero t h' =>
      obtain ⟨hpos, hneg⟩ := signed_sign hlo h
      rw [h', fpCompare]
      cases s
      · rw [if_neg (hpos rfl).ne', if_neg (hpos rfl).not_gt]; rfl
      · rw [if_neg (hneg rfl).ne, if_pos (hneg rfl)]; rfl
    | @finite t n d hlo' hhi' h' =>
      have hu : (0 : ℝ) < 2 ^ min e d := by positivity
      have ha := (signed_scaled s m (min_le_left e d)).trans h.symm
      have hb := (signed_scaled t n (min_le_right e d)).trans h'.symm
      simp only [fpCompare]
      rw [← ha, ← hb]
      simp only [mul_left_inj' hu.ne', mul_lt_mul_iff_left₀ hu, Int.cast_inj, Int.cast_lt]

theorem exec_fpCmp {s : State} (hset : Settled s) (hon : FpOn s) (hm : s.fpMode = .execution) {f : FpFormat} {onQuiet : Bool}
    {i : Instr} {x y : Nat} (hi : exec i s = fpop (encode i) (fpCmp f onQuiet x y s) s) (hx : Number f x) (hy : Number f y) :
    exec i s = .next { done s with fsr := { s.fsr with fcc := orderOf (numberOf f x) (numberOf f y), cexc := .none } } := by
  rw [hi, fpCmp_of_number hx hy, fpCompare_eq (isValue_of_number hx) (isValue_of_number hy), fpop_execution hset _ _ hon hm]
  exact congrArg _ ((ended_inexact (nx := false) (by simp) ..).trans (written_none ..))

/-- Settles O45. -/
theorem comparesOrderNumbers : Obligations.ComparesOrderNumbers := by
  intro s rd rs1 rs2 hset hon hm
  rw [← readF_eq, ← readF_eq]
  refine ⟨fun hx hy => ?_, fun hx hy => ?_⟩
  · simp only [List.forall_mem_cons, List.not_mem_nil, false_imp_iff, implies_true, and_true]
    exact ⟨exec_fpCmp hset hon hm rfl hx hy, exec_fpCmp hset hon hm rfl hx hy⟩
  · simp only [List.forall_mem_cons, List.not_mem_nil, false_imp_iff, implies_true, and_true]
    exact ⟨exec_fpCmp hset hon hm rfl hx hy, exec_fpCmp hset hon hm rfl hx hy⟩

end Sys2Proof.Claims
end

section
/-! PROOF. The conversions between formats and to integers (44_floating_point.md R305, R323 to R328). -/
namespace Sys2Proof.Claims
open Sys2Proof.Machine

/-- A number with its fractional part dropped (R305). -/
def truncated (v : ℚ) : ℤ := if 0 ≤ v then ⌊v⌋ else ⌈v⌉

/-- A number whose magnitude lies from `n` up to `n + 1` truncates to `n` with its sign. -/
theorem truncated_eq {v : ℚ} {s : Bool} {μ : ℝ} {n : Nat} (hv : (v : ℝ) = sgn s * μ) (hpos : 0 < μ) (hlo : (n : ℝ) ≤ μ)
    (hhi : μ < n + 1) : truncated v = signed s n ∧ (((truncated v : ℤ) : ℚ) ≠ v ↔ (n : ℝ) ≠ μ) := by
  have hcast (z : ℤ) : (z : ℚ) ≠ v ↔ (z : ℝ) ≠ (v : ℝ) := by
    rw [← Rat.cast_intCast (α := ℝ)]; exact not_congr Rat.cast_inj.symm
  cases s with
  | false =>
    rw [sgn, if_neg (by simp), one_mul] at hv
    have h0 : 0 ≤ v := by exact_mod_cast (hv ▸ hpos.le : (0 : ℝ) ≤ v)
    have hz : truncated v = n := by
      rw [truncated, if_pos h0, ← Rat.floor_cast (α := ℝ), hv, Int.floor_eq_iff]
      exact ⟨by exact_mod_cast hlo, by exact_mod_cast hhi⟩
    rw [hcast, hz, hv]
    exact ⟨rfl, by simp⟩
  | true =>
    rw [sgn, if_pos rfl, neg_one_mul] at hv
    have h0 : ¬0 ≤ v := by
      intro h
      have : (0 : ℝ) ≤ v := by exact_mod_cast h
      linarith
    have hz : truncated v = -n := by
      rw [truncated, if_neg h0, ← Rat.ceil_cast (α := ℝ), hv, Int.ceil_neg, neg_inj, Int.floor_eq_iff]
      exact ⟨by exact_mod_cast hlo, by exact_mod_cast hhi⟩
    rw [hcast, hz, hv]
    exact ⟨rfl, by simp⟩

/-- The whole part of a significand scaled by a power of two. -/
def wholePart (m : Nat) (e : ℤ) : Nat := if 0 ≤ e then m * 2 ^ e.toNat else m / 2 ^ (-e).toNat

/-- Whether a significand scaled by a power of two has a fractional part. -/
def hasFraction (m : Nat) (e : ℤ) : Bool := if 0 ≤ e then false else decide (m % 2 ^ (-e).toNat ≠ 0)

theorem wholePart_spec (m : Nat) (e : ℤ) : (wholePart m e : ℝ) ≤ m * 2 ^ e ∧ (m : ℝ) * 2 ^ e < wholePart m e + 1 ∧
    (hasFraction m e = true ↔ (wholePart m e : ℝ) ≠ m * 2 ^ e) := by
  unfold wholePart hasFraction
  rcases le_or_gt 0 e with h | h
  · obtain ⟨k, rfl⟩ := Int.eq_ofNat_of_zero_le h
    simp
  · obtain ⟨k, hk⟩ := Int.eq_ofNat_of_zero_le (show 0 ≤ -e by omega)
    obtain rfl : e = -(k : ℤ) := by omega
    have hn : (0 : ℝ) < ((2 ^ k : Nat) : ℝ) := by positivity
    have hdiv := Nat.div_add_mod' m (2 ^ k)
    have hmod := Nat.mod_lt m (show 0 < 2 ^ k by positivity)
    have hval : (m : ℝ) * 2 ^ (-(k : ℤ)) = m / ((2 ^ k : Nat) : ℝ) := by
      rw [zpow_neg, zpow_natCast, ← div_eq_mul_inv]; push_cast; rfl
    rw [if_neg (by omega), if_neg (by omega), neg_neg, Int.toNat_natCast, hval, decide_eq_true_iff]
    refine ⟨Nat.cast_div_le, ?_, ?_⟩
    · rw [div_lt_iff₀ hn]
      have hlt : m < (m / 2 ^ k + 1) * 2 ^ k := by rw [Nat.succ_mul]; omega
      exact_mod_cast hlt
    · rw [Ne, Ne, eq_div_iff hn.ne']
      have hiff : m % 2 ^ k = 0 ↔ m / 2 ^ k * 2 ^ k = m := by omega
      exact not_congr (by exact_mod_cast hiff)

/-- The conversion to an integer truncates, and is unfinished where the result does not fit (R305). -/
theorem fpToInt_eq {f : FpFormat} {v : ℚ} {x : FpValue} (h : IsValue f v x) : fpToInt x =
    if -2 ^ 31 ≤ truncated v ∧ truncated v < 2 ^ 31 then
      .value (BitVec.ofInt 32 (truncated v)).toNat (.inexact (decide ((truncated v : ℚ) ≠ v)))
    else .unfinished := by
  cases h with
  | zero s h =>
    obtain rfl : v = 0 := by exact_mod_cast h
    simp [fpToInt, truncated]
    rfl
  | @finite s m e hlo hhi h =>
    have hm : (0 : ℝ) < m := by exact_mod_cast Nat.pos_of_ne_zero (ne_zero_of_two_pow_le hlo)
    obtain ⟨hle, hlt, hfrac⟩ := wholePart_spec m e
    obtain ⟨hz, hne⟩ := truncated_eq h (by positivity) hle hlt
    have hinexact : decide ((truncated v : ℚ) ≠ v) = hasFraction m e := by
      rw [Bool.eq_iff_iff, decide_eq_true_iff, hne, hfrac]
    rw [hinexact, hz]
    have hrange : (-2 ^ 31 ≤ signed s (wholePart m e) ∧ signed s (wholePart m e) < 2 ^ 31) ↔
        (-2147483648 ≤ signed s (wholePart m e) ∧ signed s (wholePart m e) ≤ 2147483647) := by omega
    simp only [hrange]
    rfl

section
variable {s : State} (hset : Settled s) (hon : FpOn s) (hm : s.fpMode = .execution)
include hset hon hm

theorem exec_toInteger (hnx : s.fsr.tem.nx = false) {f : FpFormat} {i : Instr} {x : Nat} {rd : Reg}
    (hi : exec i s = fpop (encode i) (fpInteger f x rd s) s) (hx : Number f x) : let v := numberOf f x
    exec i s = .next (if -2 ^ 31 ≤ truncated v ∧ truncated v < 2 ^ 31 then
        written s { FpExc.none with nx := decide ((truncated v : ℚ) ≠ v) } (.single rd (BitVec.ofInt 32 (truncated v)))
      else ended s (encode i) .unfinished) := by
  intro v
  rw [hi, fpInteger_of_number hx, fpToInt_eq (isValue_of_number hx), fpop_execution hset _ _ hon hm]
  congr 1
  split
  · refine (ended_inexact (fun _ => hnx) ..).trans ?_
    rw [FpDest.write, BitVec.ofNat_toNat, BitVec.setWidth_eq]
    rfl
  · rfl

end

/-- Settles O44. -/
theorem conversionsAreCorrectlyRounded : Obligations.ConversionsAreCorrectlyRounded := by
  intro s rd rs1 rs2 hset hon hm hnx
  rw [← readF_eq]
  obtain ⟨hlo, hhi⟩ := toInt_bounds (readF s rs2)
  refine ⟨?_, fun hy hr => ?_, fun hy => ?_, ?_⟩
  · exact rounds_of_stands hset hon hm hnx usable_single (d := .single rd) rfl (stands_exactOfInt .single _)
      (inRange_of_int usable_single (by decide) hlo hhi)
  · exact rounds_of_stands hset hon hm hnx usable_single (d := .single rd)
      (Eq.trans rfl (congrArg (fpop _ · s) (fpUnary_of_number FpValue.exact hy))) (isValue_of_number hy).exact hr
  · obtain ⟨x, hx, he, hn, hv⟩ := writes_of_stands hset hon hm usable_double (d := .double rd) (i := .fstod rd rs1 rs2)
      (Eq.trans rfl (congrArg (fpop _ · s) (fpUnary_of_number FpValue.exact hy))) (isValue_of_number hy).exact
      (inRange_double_of_single (inRange_of_number usable_single hy)) (inexactOf_exact (by decide) (isValue_of_number hy))
    have hnat : (BitVec.ofNat 64 x).toNat = x := by rw [BitVec.toNat_ofNat]; exact Nat.mod_eq_of_lt hx
    refine ⟨BitVec.ofNat 64 x, he, by rwa [hnat], ?_⟩
    rw [hnat]
    exact Rat.cast_injective hv
  · simp only [List.forall_mem_cons, List.not_mem_nil, false_imp_iff, implies_true, and_true]
    exact ⟨exec_toInteger hset hon hm hnx rfl, exec_toInteger hset hon hm hnx rfl⟩

end Sys2Proof.Claims
end
